-- ==== Sys2Proof/Word.lean ====
section
/-!
DEFINITION. The two word types of the machine (spec 00 R5, R6): a byte of 8 bits and a word of 16 bits,
both wrapping at their width.
-/
namespace Sys2Proof

/-- An 8-bit register or memory cell (`XLEN8`, 00 R5). -/
abbrev Byte := BitVec 8

/-- A 16-bit register, register pair or bus address (`XLEN16`, 00 R5). -/
abbrev Word := BitVec 16

end Sys2Proof
end

