-- ==== Sys2Proof/Machine/Bits.lean ====
section
/-!
DEFINITION. Bit-field, byte-order and sign-extension helpers (spec 00 R6, R7). They stand under Machine/ so that a
repair can reach them.
-/
namespace Sys2Proof

/-- `hi8(w)`: bits 15 to 8 (00 R6). -/
def hi8 (w : Word) : Byte := w.extractLsb' 8 8

/-- `lo8(w)`: bits 7 to 0 (00 R6). -/
def lo8 (w : Word) : Byte := w.extractLsb' 0 8

/-- `{h, l}`: the word with high byte `h` and low byte `l` (00 R6). -/
def word16 (h l : Byte) : Word := h ++ l

/-- `sext_16(b)` (00 R7). -/
def sext16 (b : Byte) : Word := b.signExtend 16

/-- The low nibble of a byte as a number, `b & 0x0F`. -/
def lowNibble (b : Byte) : Nat := (b &&& 0x0F#8).toNat

/-- One bit as a number, 0 or 1. -/
def bitNat (b : Bool) : Nat := if b then 1 else 0

/-- One bit as a byte with the bit at position `k` and zeros elsewhere. -/
def bitAt (b : Bool) (k : Nat) : Byte := if b then 1#8 <<< k else 0#8

end Sys2Proof
end

