-- ==== Sys2Proof/WellFormed.lean ====
section
/-!
DEFINITION. Which terms of Instr are instructions. Immediates are of the exact width of their field, so every value of
one is legal (spec 30 R162, R166, R170: no reserved fields); the one check is that the row is an instruction at all
and not one of the eleven unassigned bytes (30 R169).
-/
namespace Sys2Proof

/-- The term is one of the 500 instructions, not an unassigned byte (30 R169). -/
def Instr.wellFormed (i : Instr) : Bool :=
  match i with
  | .unassigned_D3 | .unassigned_DB | .unassigned_DD | .unassigned_E3 | .unassigned_E4 | .unassigned_EB
  | .unassigned_EC | .unassigned_ED | .unassigned_F4 | .unassigned_FC | .unassigned_FD => false
  | _ => true

end Sys2Proof
end

