-- ==== Sys2Proof/Config.lean ====
section
/-!
DEFINITION. The implementation parameters of spec 00 R5: the constants of the block, and the values a cartridge load
takes as arguments (ROM, cgb_mode, EI_DELAY, CART_RAM_INIT, RTC_INIT). A machine carries the parameters it was loaded
with in its State; nothing here is a free value, because the rules leave no value undefined.
-/
namespace Sys2Proof

/-- A ROM image: `size` bytes; the byte at offset `j < size` is the one `cells` lists for `j`, the last one where it
lists several, and 0x00 where it lists none. It stands for the byte sequence `ROM` of 00 R5 (log entry 6). -/
structure Image where
  size  : Nat
  cells : List Host.Cell
deriving DecidableEq, Repr

/-- The five bytes of `RTC_INIT` (00 R5, 10 R44). -/
structure RtcInit where
  s  : Byte
  m  : Byte
  h  : Byte
  dl : Byte
  dh : Byte
deriving DecidableEq, Repr

/-- The arguments of a cartridge load (00 R5, 60 R460 `Load(ROM, params)`). `cgbMode = none` asks for the default,
bit 7 of ROM[0x143]. `cartRamInit` lists (bank * 8192 + offset, byte); an offset it does not list holds 0x00. -/
structure Params where
  rom         : Image
  cgbMode     : Option Bool
  eiDelay     : Bool
  cartRamInit : List Host.Cell
  rtcInit     : RtcInit
deriving DecidableEq, Repr

/-- The size of a ROM bank, 16 KiB (20 R106). -/
def romBankSize : Nat := 0x4000

/-- The size of a cartridge RAM bank, 8 KiB (20 R107). -/
def ramBankSize : Nat := 0x2000

/-- The shortest ROM image a load accepts (20 R100). -/
def minRomSize : Nat := 0x150

/-- The frame budget of 60 R455: a constant of the driving loop, read by no rule of the machine. -/
def frameBudget : Nat := 70224

/-- The image whose every byte is 0x00, 32 KiB long: the cartridge in the slot at `State.reset` (log entry 3). -/
def blankImage : Image := { size := 0x8000, cells := [] }

/-- `RTC_INIT` of all zeros, the default of the parameter (log entry 4). -/
def zeroRtc : RtcInit := { s := 0#8, m := 0#8, h := 0#8, dl := 0#8, dh := 0#8 }

/-- The default parameters: the blank image, the default GBC mode, `EI_DELAY = 0` (the decided value of 92 D8),
cartridge RAM and clock of zeros. -/
def defaultParams : Params :=
  { rom := blankImage, cgbMode := none, eiDelay := false, cartRamInit := [], rtcInit := zeroRtc }

end Sys2Proof
end

