-- ==== Sys2Proof/Machine/Memory.lean ====
section
/-!
DEFINITION. The storage of the machine as one canonical list of cells. A storage cell is named by its place (`Loc`: a
bank and an offset in one of the buffers of spec 10 R35, R36, R41) and listed under its physical key. The bus
(Machine/Bus.lean) turns an address into a place; this file knows nothing of addresses.
-/
namespace Sys2Proof.Machine

/-- A storage cell: a byte of video RAM, work RAM, OAM, high RAM (10 R35), an I/O latch (10 R36), a byte of cartridge
RAM or of the ROM image (10 R41). `oam` and `hram` offsets past 159 and 126 and `io` offsets outside NAMED name no
cell the bus reaches. -/
inductive Loc where
  | vram    (bank : BitVec 1) (off : BitVec 13)
  | wram    (bank : BitVec 3) (off : BitVec 12)
  | oam     (off : BitVec 8)
  | hram    (off : BitVec 7)
  | io      (off : BitVec 7)
  | cartRam (bank : BitVec 4) (off : BitVec 13)
  | rom     (off : Nat)
deriving DecidableEq, Repr

/-- The first key of the I/O latches; every key below it is bus RAM. -/
def ioBase : Nat := 0xC200

/-- The first key of cartridge RAM; every key from it on belongs to the cartridge. -/
def cartRamBase : Nat := 0x10000

/-- The first key of the ROM image; every key from it on is a ROM byte. -/
def romBase : Nat := 0x100000

/-- The physical key of a storage cell (log entry 5). Different cells have different keys. -/
def Loc.key : Loc → Nat
  | .vram bank off    => bank.toNat * 0x2000 + off.toNat
  | .wram bank off    => 0x4000 + bank.toNat * 0x1000 + off.toNat
  | .oam off          => 0xC000 + off.toNat
  | .hram off         => 0xC100 + off.toNat
  | .io off           => ioBase + off.toNat
  | .cartRam bank off => cartRamBase + bank.toNat * 0x2000 + off.toNat
  | .rom off          => romBase + off

/-- The storage: (key, byte) pairs. -/
abbrev Memory := List Host.Cell

/-- What an unlisted key reads as: 0xFF in every buffer of the bus, the power-on pattern of 10 R48; 0x00 in an I/O
latch (10 R48); 0x00 in cartridge RAM (the default of CART_RAM_INIT, log entry 4) and in the ROM image (log entry 6). -/
def Memory.unlisted (k : Nat) : Byte := if k < ioBase then 0xFF#8 else 0x00#8

/-- The byte at key `k`. -/
def Memory.read (m : Memory) (k : Nat) : Byte :=
  match m with
  | [] => Memory.unlisted k
  | (j, v) :: rest => if j = k then v else Memory.read rest k

/-- The canonical form from key `lo` on: keys strictly rising, no cell that an unlisted key already reads as. -/
def Memory.wfFrom (lo : Nat) : Memory → Bool
  | [] => true
  | (k, v) :: rest => decide (lo ≤ k) && decide (v ≠ Memory.unlisted k) && Memory.wfFrom (k + 1) rest

/-- The canonical form. -/
def Memory.wf (m : Memory) : Bool := Memory.wfFrom 0 m

/-- The list with cell `(k, v)` in front, or without it where `v` is what an unlisted `k` reads as. -/
def Memory.cons (k : Nat) (v : Byte) (rest : Memory) : Memory :=
  if v = Memory.unlisted k then rest else (k, v) :: rest

/-- Store `v` at key `k`, keeping the canonical form. -/
def Memory.write (m : Memory) (k : Nat) (v : Byte) : Memory :=
  match m with
  | [] => Memory.cons k v []
  | (j, w) :: rest =>
    if k < j then Memory.cons k v ((j, w) :: rest)
    else if k = j then Memory.cons k v rest
    else (j, w) :: Memory.write rest k v

/-- Keep the cells of the cartridge, cartridge RAM and ROM: what a system reset leaves standing (70 R470). -/
def Memory.keepCartridge : Memory → Memory
  | [] => []
  | (k, v) :: rest => if k < cartRamBase then Memory.keepCartridge rest else (k, v) :: Memory.keepCartridge rest

end Sys2Proof.Machine
end

