-- ==== Sys2Proof/Machine/State.lean ====
section
/-!
DEFINITION. The state of the machine as plain data: everything spec 10 lists (R20 to R45), the configuration a
cartridge load fixes (00 R5, 10 R47), the reasons a step can stop (60 R400, 00 R9), and the state after reset (10 R48).
-/
namespace Sys2Proof.Machine

/-- The four flags (10 R23). F is the byte `{z, n, h, c, 0, 0, 0, 0}` (10 R24). -/
structure Flags where
  z : Bool
  n : Bool
  h : Bool
  c : Bool
deriving DecidableEq, Repr

/-- One set of clock registers of an MBC3 cartridge, stored bits only (10 R44): S, M, H, DL, and the three stored bits of DH. -/
structure Clock where
  sec   : BitVec 6
  min   : BitVec 6
  hour  : BitVec 5
  dayLo : BitVec 8
  dayHi : Bool
  halt  : Bool
  carry : Bool
deriving DecidableEq, Repr

/-- The two sets of clock registers of a cartridge with has-timer (10 R44): the live set and the latched set. -/
structure Clocks where
  rtc        : Clock
  rtcLatched : Clock
deriving DecidableEq, Repr

/-- The five clock registers by name (10 R44: select values 0x08 to 0x0C). -/
inductive ClockReg where
  | s | m | h | dl | dh
deriving DecidableEq, Repr

/-- Mbc1 latches (10 R43). -/
structure Mbc1 where
  ramEnable : Bool
  bank1     : BitVec 5
  bank2     : BitVec 2
  mode      : Bool
deriving DecidableEq, Repr

/-- Mbc3 and Mbc30 latches (10 R44). Mbc3 uses 7 bits of `romBank`, Mbc30 all 8. The clock registers exist only when
the cartridge has the has-timer capability. -/
structure Mbc3 where
  ramEnable : Bool
  romBank   : BitVec 8
  sel       : Byte
  latchPrev : Byte
  clocks    : Option Clocks
deriving DecidableEq, Repr

/-- Mbc5 latches (10 R45). -/
structure Mbc5 where
  ramEnable : Bool
  romLo     : BitVec 8
  romHi     : BitVec 1
  ramBank   : BitVec 4
  rumble    : Bool
deriving DecidableEq, Repr

/-- The bank controller bound to the bus (10 R42): its kind, and the latches that kind has. -/
inductive Mbc where
  | romOnly
  | mbc1  (l : Mbc1)
  | mbc3  (l : Mbc3)
  | mbc30 (l : Mbc3)
  | mbc5  (l : Mbc5)
deriving DecidableEq, Repr

/-- The implemented kinds (20 R103, R108). -/
inductive MbcKind where
  | romOnly | mbc1 | mbc3 | mbc30 | mbc5
deriving DecidableEq, Repr

/-- What a load derives from the image once (10 R41): configuration, never changed by a step. -/
structure Cartridge where
  romLen        : Nat
  ramBankCount  : Nat
  hasRam        : Bool
  hasBattery    : Bool
  hasTimer      : Bool
  hasRumble     : Bool
  checksumValid : Bool
  title         : List Byte
  cgbFlag       : Byte
  licensee      : List Byte
deriving DecidableEq, Repr

/-- The fault record of 60 R400, four tags with their recorded values. -/
inductive FaultRecord where
  /-- The first byte fetched is one of the eleven unassigned bytes (48 R356). Raised by the meanings of the
  UNASSIGNED rows. Safe: the spec's own outcome. -/
  | decodeFault (opcode : Byte) (pc : Word)
  /-- A host bus access outside 0x0000 to 0xFFFF (20 R73, 60 R405). Raised by `busRead` and `busWrite`, never by a
  step. Safe: the spec's own outcome. -/
  | addressFault (addr : Int)
  /-- The load met a type byte or RAM size code it has no row for (the byte is recorded), or an image shorter than
  0x150 bytes (nothing to record) (20 R100, R103, R104). Raised by `load`, never by a step. Safe. -/
  | unsupportedCartridge (value : Option Byte)
  /-- A push with sp < 2 or a pop with sp > 0xFFFD (47 R340, R341). Raised by `push16` and `pop16`. Safe: the spec's
  own outcome. -/
  | stackFault (sp : Word)
deriving DecidableEq, Repr

/-- Why a step ends without a next state. -/
inductive Fault where
  /-- The outcome `fault` of 00 R9: the step raised this record, or the machine was already faulted with it
  (60 R401). Raised by the meanings above and by `step` on a faulted machine. Safe: the spec's own outcome. -/
  | raised (r : FaultRecord)
  /-- The outcome `stuck` of 00 R9: a step was asked of a stopped core (48 R352). Raised by `step`. Safe: the core has
  no step there, only the host move `Wake` or a reset goes on (log entry 2). -/
  | stuck
deriving DecidableEq, Repr

/-- Why something has no meaning. -/
inductive Refusal where
  /-- An instruction without a meaning yet; raised by an arm of `exec`. No arm of this model uses it. Safe. -/
  | notModelled (mnemonic : String)
  /-- The outcome `refused` of 00 R9: the load raised this record and no machine was built (60 R406). Raised by
  `load`. Safe: the spec's own outcome. -/
  | refusedLoad (r : FaultRecord)
deriving DecidableEq, Repr

/-- The machine. -/
structure State where
  -- CPU registers (10 R20, R23, R26, R27)
  a : Byte
  b : Byte
  c : Byte
  d : Byte
  e : Byte
  h : Byte
  l : Byte
  flags : Flags
  pc : Word
  sp : Word
  -- control state of the CPU (10 R28 to R33)
  ime : Bool
  eiPending : Bool
  halted : Bool
  stopped : Bool
  fault : Option FaultRecord
  cycles : Nat
  -- the registers of the bus with a behaviour of their own (10 R37 to R40)
  ifReg : BitVec 5
  ieReg : Byte
  svbk : BitVec 3
  vbk : BitVec 1
  -- the bank controller (10 R42 to R45)
  mbc : Mbc
  -- configuration (00 R5, 10 R41, R47)
  cart : Cartridge
  cgbMode : Bool
  eiDelay : Bool
  -- every buffer of bytes: the bus's, the plain I/O latches, cartridge RAM and the ROM image (10 R35, R36, R41)
  mem : Memory
deriving DecidableEq, Repr

/-- The cartridge of `State.reset`: what the load derives from the blank image of 32 KiB (log entry 3). -/
def blankCartridge : Cartridge :=
  { romLen := 0x8000, ramBankCount := 0, hasRam := false, hasBattery := false, hasTimer := false, hasRumble := false,
    checksumValid := false, title := [], cgbFlag := 0x00#8, licensee := [0x00#8] }

/-- The machine right after reset (10 R48, 70 R470), with the blank cartridge in the slot (log entry 3). -/
def State.reset : State :=
  { a := 0#8, b := 0#8, c := 0#8, d := 0#8, e := 0#8, h := 0#8, l := 0#8
    flags := { z := false, n := false, h := false, c := false }
    pc := 0x0000#16, sp := 0x0000#16
    ime := false, eiPending := false, halted := false, stopped := false, fault := none, cycles := 0
    ifReg := 0#5, ieReg := 0x00#8, svbk := 1#3, vbk := 0#1
    mbc := .romOnly, cart := blankCartridge, cgbMode := false, eiDelay := false
    mem := [] }

/-- What one step, or one instruction, answers. -/
abbrev Result := Host.Outcome State Fault Refusal

end Sys2Proof.Machine
end

