-- ==== Sys2Proof/Machine/Mbc.lean ====
section
/-!
DEFINITION. The bank controllers (spec 20 sections 4 to 8): the six operations of R110 for RomOnly (R113), Mbc1 (R130
to R135), Mbc3 and Mbc30 (R140 to R149) and Mbc5 (R150 to R154), the bank reduction (R111), the RAM-enable gate (R112)
and the clock of Mbc3 (R144, R147, R148).
-/
namespace Sys2Proof.Machine

/-- The kind of a bound controller. -/
def Mbc.kind : Mbc → MbcKind
  | .romOnly => .romOnly
  | .mbc1 _  => .mbc1
  | .mbc3 _  => .mbc3
  | .mbc30 _ => .mbc30
  | .mbc5 _  => .mbc5

/-! ### Bank reduction and ROM bytes -/

/-- `rom_bank_count = ceil(len(ROM) / 0x4000)` (20 R106). -/
def romBankCount (cart : Cartridge) : Nat := (cart.romLen + (romBankSize - 1)) / romBankSize

/-- The index into ROM of byte `off` of bank `bank`, reduced modulo the bank count (20 R106, R111); none beyond the
image. -/
def romIndex (cart : Cartridge) (bank off : Nat) : Option Nat :=
  let j := (bank % romBankCount cart) * romBankSize + off
  if j < cart.romLen then some j else none

/-- `rom_byte(bank, off)` (20 R106): 0xFF beyond the image. -/
def romByte (s : State) (bank off : Nat) : Byte :=
  match romIndex s.cart bank off with
  | some j => s.mem.read (Loc.rom j).key
  | none => 0xFF#8

/-- A selected RAM bank reduced modulo the bank count, or none when the cartridge has no RAM (20 R111, R112). -/
def reduceRamBank (cart : Cartridge) (n : Nat) : Option (BitVec 4) :=
  if cart.ramBankCount = 0 then none else some (BitVec.ofNat 4 (n % cart.ramBankCount))

/-! ### The clock registers -/

/-- `rtc[i]` as a byte; bits that are not stored read 0 (10 R44). -/
def Clock.readReg (k : Clock) : ClockReg → Byte
  | .s  => k.sec.setWidth 8
  | .m  => k.min.setWidth 8
  | .h  => k.hour.setWidth 8
  | .dl => k.dayLo
  | .dh => bitAt k.carry 7 ||| bitAt k.halt 6 ||| bitAt k.dayHi 0

/-- `rtc[i] <- b & mask[i]` with the masks 3F, 3F, 1F, FF, C1 (20 R147). -/
def Clock.writeReg (k : Clock) (r : ClockReg) (b : Byte) : Clock :=
  match r with
  | .s  => { k with sec := b.setWidth 6 }
  | .m  => { k with min := b.setWidth 6 }
  | .h  => { k with hour := b.setWidth 5 }
  | .dl => { k with dayLo := b }
  | .dh => { k with dayHi := b.getLsbD 0, halt := b.getLsbD 6, carry := b.getLsbD 7 }

/-- The day counter's part of `RtcTick`: 9 bits, with a sticky carry (20 R148). -/
def Clock.tickDay (k : Clock) : Clock :=
  let d := bitNat k.dayHi * 256 + k.dayLo.toNat + 1
  if d = 512 then { k with dayLo := 0#8, dayHi := false, carry := true }
  else { k with dayLo := BitVec.ofNat 8 d, dayHi := decide (256 ≤ d) }

/-- One second of the live clock (20 R148). -/
def Clock.tick (k : Clock) : Clock :=
  if k.halt then k
  else if k.sec + 1#6 ≠ 60#6 then { k with sec := k.sec + 1#6 }
  else if k.min + 1#6 ≠ 60#6 then { k with sec := 0#6, min := k.min + 1#6 }
  else if k.hour + 1#5 ≠ 24#5 then { k with sec := 0#6, min := 0#6, hour := k.hour + 1#5 }
  else Clock.tickDay { k with sec := 0#6, min := 0#6, hour := 0#5 }

/-- `rtc_latched[0..4] <- rtc[0..4]` (20 R144). -/
def Clocks.latch (k : Clocks) : Clocks := { k with rtcLatched := k.rtc }

/-- The clock registers of a controller, where it has them (10 R44). -/
def Mbc.clocks : Mbc → Option Clocks
  | .mbc3 l | .mbc30 l => l.clocks
  | .romOnly | .mbc1 _ | .mbc5 _ => none

/-- The controller with its clock registers changed by `f`, where it has them. -/
def Mbc.mapClocks (f : Clocks → Clocks) : Mbc → Mbc
  | .mbc3 l  => .mbc3 { l with clocks := l.clocks.map f }
  | .mbc30 l => .mbc30 { l with clocks := l.clocks.map f }
  | .romOnly => .romOnly
  | .mbc1 l  => .mbc1 l
  | .mbc5 l  => .mbc5 l

/-! ### The latches: bank-control writes -/

/-- The RAM-enable pattern: a low nibble of 0xA enables, anything else disables (20 R112). -/
def ramGate (b : Byte) : Bool := (b &&& 0x0F#8) = 0x0A#8

/-- `write_rom_fixed(a, b)` of Mbc1 (20 R131, R132). -/
def Mbc1.writeFixed (l : Mbc1) (a : Word) (b : Byte) : Mbc1 :=
  if a.toNat < 0x2000 then { l with ramEnable := ramGate b }
  else
    let v : BitVec 5 := b.setWidth 5
    { l with bank1 := if v = 0#5 then 1#5 else v }

/-- `write_rom_switchable(a, b)` of Mbc1 (20 R133, R134). -/
def Mbc1.writeSwitchable (l : Mbc1) (a : Word) (b : Byte) : Mbc1 :=
  if a.toNat < 0x6000 then { l with bank2 := b.setWidth 2 } else { l with mode := b.getLsbD 0 }

/-- `write_rom_fixed(a, b)` of Mbc3 and Mbc30; `mask` is 0x7F or 0xFF (20 R141, R142, R149). -/
def Mbc3.writeFixed (mask : Byte) (l : Mbc3) (a : Word) (b : Byte) : Mbc3 :=
  if a.toNat < 0x2000 then { l with ramEnable := ramGate b }
  else
    let v := b &&& mask
    { l with romBank := if v = 0#8 then 1#8 else v }

/-- `write_rom_switchable(a, b)` of Mbc3 and Mbc30: the select register, and the two-write clock latch (20 R143,
R144). -/
def Mbc3.writeSwitchable (l : Mbc3) (a : Word) (b : Byte) : Mbc3 :=
  if a.toNat < 0x6000 then { l with sel := b }
  else if l.latchPrev = 0x00#8 ∧ b = 0x01#8 then { l with latchPrev := b, clocks := l.clocks.map Clocks.latch }
  else { l with latchPrev := b }

/-- `write_rom_fixed(a, b)` of Mbc5 (20 R151, R152). -/
def Mbc5.writeFixed (l : Mbc5) (a : Word) (b : Byte) : Mbc5 :=
  if a.toNat < 0x2000 then { l with ramEnable := ramGate b }
  else if a.toNat < 0x3000 then { l with romLo := b }
  else { l with romHi := b.setWidth 1 }

/-- `write_rom_switchable(a, b)` of Mbc5 (20 R153, R154): with has-rumble bit 3 is the motor. -/
def Mbc5.writeSwitchable (hasRumble : Bool) (l : Mbc5) (a : Word) (b : Byte) : Mbc5 :=
  if a.toNat < 0x6000 then
    if hasRumble then { l with ramBank := (b &&& 0x07#8).setWidth 4, rumble := b.getLsbD 3 }
    else { l with ramBank := b.setWidth 4 }
  else l

/-- `write_rom_fixed(a, b)` (20 R62, R110). -/
def mbcWriteRomFixed (m : Mbc) (a : Word) (b : Byte) : Mbc :=
  match m with
  | .romOnly => .romOnly
  | .mbc1 l  => .mbc1 (l.writeFixed a b)
  | .mbc3 l  => .mbc3 (Mbc3.writeFixed 0x7F#8 l a b)
  | .mbc30 l => .mbc30 (Mbc3.writeFixed 0xFF#8 l a b)
  | .mbc5 l  => .mbc5 (l.writeFixed a b)

/-- `write_rom_switchable(a, b)` (20 R63, R110). -/
def mbcWriteRomSwitchable (cart : Cartridge) (m : Mbc) (a : Word) (b : Byte) : Mbc :=
  match m with
  | .romOnly => .romOnly
  | .mbc1 l  => .mbc1 (l.writeSwitchable a b)
  | .mbc3 l  => .mbc3 (l.writeSwitchable a b)
  | .mbc30 l => .mbc30 (l.writeSwitchable a b)
  | .mbc5 l  => .mbc5 (Mbc5.writeSwitchable cart.hasRumble l a b)

/-! ### ROM reads -/

/-- The ROM bank the fixed window shows, before the reduction: 0, but for Mbc1 in mode 1 (20 R62, R135). -/
def fixedBank : Mbc → Nat
  | .mbc1 l => if l.mode then l.bank2.toNat * 32 else 0
  | .romOnly | .mbc3 _ | .mbc30 _ | .mbc5 _ => 0

/-- The ROM bank the switchable window shows, before the reduction (20 R113, R135, R145, R154). -/
def switchableBank : Mbc → Nat
  | .romOnly => 1
  | .mbc1 l  => l.bank2.toNat * 32 + l.bank1.toNat
  | .mbc3 l  => l.romBank.toNat
  | .mbc30 l => l.romBank.toNat
  | .mbc5 l  => l.romHi.toNat * 256 + l.romLo.toNat

/-- `read_rom_fixed(a)` (20 R62). -/
def mbcReadRomFixed (s : State) (a : Word) : Byte := romByte s (fixedBank s.mbc) a.toNat

/-- `read_rom_switchable(a)` (20 R63). -/
def mbcReadRomSwitchable (s : State) (a : Word) : Byte := romByte s (switchableBank s.mbc) (a.toNat - 0x4000)

/-! ### The cartridge RAM window -/

/-- What 0xA000 to 0xBFFF reaches (20 R112, R135, R143, R154). -/
inductive RamTarget where
  | none
  | bank (n : BitVec 4)
  | clock (r : ClockReg)
deriving DecidableEq, Repr

/-- A RAM bank as a target. -/
def ramBankTarget (cart : Cartridge) (n : Nat) : RamTarget :=
  match reduceRamBank cart n with
  | some k => .bank k
  | none => .none

/-- The clock register a select value names (10 R44). -/
def clockOfSel (sel : Byte) : Option ClockReg :=
  if sel = 0x08#8 then some .s
  else if sel = 0x09#8 then some .m
  else if sel = 0x0A#8 then some .h
  else if sel = 0x0B#8 then some .dl
  else if sel = 0x0C#8 then some .dh
  else none

/-- The target an Mbc3 or Mbc30 select value names; `banks` is 4 or 8 (20 R143, R149). -/
def selTarget (cart : Cartridge) (banks : Nat) (sel : Byte) : RamTarget :=
  if sel.toNat < banks then ramBankTarget cart sel.toNat
  else
    match clockOfSel sel with
    | some r => if cart.hasTimer then .clock r else .none
    | none => .none

/-- What the cartridge RAM window reaches now; none while the gate is closed (20 R112, R135, R146, R147, R154). -/
def mbcRamTarget (cart : Cartridge) : Mbc → RamTarget
  | .romOnly => .none
  | .mbc1 l  => if l.ramEnable then ramBankTarget cart (if l.mode then l.bank2.toNat else 0) else .none
  | .mbc3 l  => if l.ramEnable then selTarget cart 4 l.sel else .none
  | .mbc30 l => if l.ramEnable then selTarget cart 8 l.sel else .none
  | .mbc5 l  => if l.ramEnable then ramBankTarget cart l.ramBank.toNat else .none

/-- `rtc_latched[i]`, what a clock register reads as (20 R146); 0xFF where there is none (log entry 17). -/
def mbcReadClock (m : Mbc) (r : ClockReg) : Byte :=
  match m.clocks with
  | some k => k.rtcLatched.readReg r
  | none => 0xFF#8

/-- `rtc[i] <- b & mask[i]`: the live register only (20 R147). -/
def mbcWriteClock (m : Mbc) (r : ClockReg) (b : Byte) : Mbc :=
  m.mapClocks fun k => { k with rtc := k.rtc.writeReg r b }

/-- `read_ram(a)` (20 R67, R110). -/
def mbcReadRam (s : State) (a : Word) : Byte :=
  match mbcRamTarget s.cart s.mbc with
  | .none => 0xFF#8
  | .bank n => s.mem.read (Loc.cartRam n (a.setWidth 13)).key
  | .clock r => mbcReadClock s.mbc r

/-- `write_ram(a, b)` (20 R67, R110). -/
def mbcWriteRam (s : State) (a : Word) (b : Byte) : State :=
  match mbcRamTarget s.cart s.mbc with
  | .none => s
  | .bank n => { s with mem := s.mem.write (Loc.cartRam n (a.setWidth 13)).key b }
  | .clock r => { s with mbc := mbcWriteClock s.mbc r b }

/-! ### Reset and the clock's advance -/

/-- The live clock registers a load takes from RTC_INIT, each masked to its stored bits (10 R48). -/
def Clock.ofInit (r : RtcInit) : Clock :=
  { sec := r.s.setWidth 6, min := r.m.setWidth 6, hour := r.h.setWidth 5, dayLo := r.dl,
    dayHi := r.dh.getLsbD 0, halt := r.dh.getLsbD 6, carry := r.dh.getLsbD 7 }

/-- Mbc1 latches after reset (10 R48). -/
def Mbc1.atReset : Mbc1 := { ramEnable := false, bank1 := 1#5, bank2 := 0#2, mode := false }

/-- Mbc3 and Mbc30 latches after reset, with the clock registers given (10 R48). -/
def Mbc3.atReset (clocks : Option Clocks) : Mbc3 :=
  { ramEnable := false, romBank := 1#8, sel := 0x00#8, latchPrev := 0xFF#8, clocks := clocks }

/-- The clock registers at power-on: with has-timer the live set from RTC_INIT and the latched set equal to it, without
it none (10 R44, R48). -/
def Clocks.powerOn (r : RtcInit) (hasTimer : Bool) : Option Clocks :=
  if hasTimer then some { rtc := Clock.ofInit r, rtcLatched := Clock.ofInit r } else none

/-- Mbc5 latches after reset (10 R48). -/
def Mbc5.atReset : Mbc5 := { ramEnable := false, romLo := 1#8, romHi := 0#1, ramBank := 0#4, rumble := false }

/-- The controller of a kind at power-on. -/
def Mbc.powerOn (r : RtcInit) (hasTimer : Bool) : MbcKind → Mbc
  | .romOnly => .romOnly
  | .mbc1    => .mbc1 Mbc1.atReset
  | .mbc3    => .mbc3 (Mbc3.atReset (Clocks.powerOn r hasTimer))
  | .mbc30   => .mbc30 (Mbc3.atReset (Clocks.powerOn r hasTimer))
  | .mbc5    => .mbc5 Mbc5.atReset

/-- The controller after a system reset: the live clock is battery-backed and stays, and the latched one equals it (70 R470,
10 R48). -/
def Mbc.systemReset : Mbc → Mbc
  | .romOnly => .romOnly
  | .mbc1 _  => .mbc1 Mbc1.atReset
  | .mbc3 l  => .mbc3 (Mbc3.atReset (l.clocks.map Clocks.latch))
  | .mbc30 l => .mbc30 (Mbc3.atReset (l.clocks.map Clocks.latch))
  | .mbc5 _  => .mbc5 Mbc5.atReset

/-- `RtcTick` on the controller (20 R148): nothing unless the cartridge has a timer. -/
def Mbc.rtcTick (cart : Cartridge) (m : Mbc) : Mbc :=
  if cart.hasTimer then m.mapClocks fun k => { k with rtc := k.rtc.tick } else m

end Sys2Proof.Machine
end

