-- ==== Sys2Proof/Machine/Bus.lean ====
section
/-!
DEFINITION. The bus dispatcher (spec 20 section 1): where an address goes (R60, R61), `MemRead` and `MemWrite` of one
byte and of two (00 R8, 20 R88), and the I/O page (R84 to R87). An address is a Word, so every address the CPU
computes is reduced modulo 2^16 before it gets here.
-/
namespace Sys2Proof.Machine

/-- What an address reaches: the third column of the tables of 20 R60 and R61. -/
inductive Target where
  | romFixed
  | romSwitchable
  | cartRam
  | cell (l : Loc)
  | nothing
  | ifReg
  | vbk
  | svbk
  | ieReg
deriving DecidableEq, Repr

/-- The plain latches of the I/O page: the members of NAMED (10 R36) other than IF, VBK and SVBK, by offset. -/
def ioPlain (i : Nat) : Bool :=
  decide (i ≤ 0x02) || decide (0x04 ≤ i ∧ i ≤ 0x07) || decide (0x10 ≤ i ∧ i ≤ 0x14) || decide (0x16 ≤ i ∧ i ≤ 0x1E)
    || decide (0x20 ≤ i ∧ i ≤ 0x26) || decide (0x30 ≤ i ∧ i ≤ 0x4B) || decide (i = 0x4D)
    || decide (0x51 ≤ i ∧ i ≤ 0x56) || decide (0x68 ≤ i ∧ i ≤ 0x6B)

/-- The I/O page by offset (20 R84). -/
def ioTarget (i : Nat) : Target :=
  if i = 0x0F then .ifReg
  else if i = 0x4F then .vbk
  else if i = 0x70 then .svbk
  else if ioPlain i then .cell (.io (BitVec.ofNat 7 i))
  else .nothing

/-- The video RAM bank, `vb` (20 R64). -/
def vramBank (s : State) : BitVec 1 := if s.cgbMode then s.vbk else 0#1

/-- The switchable work RAM bank, `wb` (20 R66). -/
def wramBank (s : State) : BitVec 3 := if s.cgbMode then s.svbk else 1#3

/-- The work RAM cell at an address in 0xC000 to 0xDFFF (20 R65, R66). -/
def wramTarget (s : State) (a : Word) : Target :=
  if a.toNat < 0xD000 then .cell (.wram 0#3 (a.setWidth 12)) else .cell (.wram (wramBank s) (a.setWidth 12))

/-- The dispatcher (20 R60, R61). The echo range is the same access 0x2000 lower (R68). -/
def busTarget (s : State) (a : Word) : Target :=
  let n := a.toNat
  if n < 0x4000 then .romFixed
  else if n < 0x8000 then .romSwitchable
  else if n < 0xA000 then .cell (.vram (vramBank s) (a.setWidth 13))
  else if n < 0xC000 then .cartRam
  else if n < 0xE000 then wramTarget s a
  else if n < 0xFE00 then wramTarget s (a - 0x2000#16)
  else if n < 0xFEA0 then .cell (.oam (a.setWidth 8))
  else if n < 0xFF00 then .nothing
  else if n < 0xFF80 then ioTarget (n - 0xFF00)
  else if n < 0xFFFF then .cell (.hram (a.setWidth 7))
  else .ieReg

/-- `MemRead(a, 1)` (20 R60): it changes no state (R94). -/
def memRead (s : State) (a : Word) : Byte :=
  match busTarget s a with
  | .romFixed => mbcReadRomFixed s a
  | .romSwitchable => mbcReadRomSwitchable s a
  | .cartRam => mbcReadRam s a
  | .cell l => s.mem.read l.key
  | .nothing => 0xFF#8
  | .ifReg => s.ifReg.setWidth 8 ||| 0xE0#8
  | .vbk => s.vbk.setWidth 8
  | .svbk => s.svbk.setWidth 8
  | .ieReg => s.ieReg

/-- The value a write of `b` leaves in SVBK: three bits, 0 coerced to 1 (20 R86). -/
def svbkOf (b : Byte) : BitVec 3 := if b.setWidth 3 = 0#3 then 1#3 else b.setWidth 3

/-- `MemWrite(a, 1, b)` (20 R61). -/
def memWrite (s : State) (a : Word) (b : Byte) : State :=
  match busTarget s a with
  | .romFixed => { s with mbc := mbcWriteRomFixed s.mbc a b }
  | .romSwitchable => { s with mbc := mbcWriteRomSwitchable s.cart s.mbc a b }
  | .cartRam => mbcWriteRam s a b
  | .cell l => { s with mem := s.mem.write l.key b }
  | .nothing => s
  | .ifReg => { s with ifReg := b.setWidth 5 }
  | .vbk => { s with vbk := b.setWidth 1 }
  | .svbk => { s with svbk := svbkOf b }
  | .ieReg => { s with ieReg := b }

/-- `MemRead(a, 2)`: low byte at `a`, high byte at `a + 1` (00 R8, 20 R88). -/
def memRead16 (s : State) (a : Word) : Word := word16 (memRead s (a + 1#16)) (memRead s a)

/-- `MemWrite(a, 2, v)`: the low byte at `a` first, then the high byte at `a + 1` (00 R8, 20 R88). -/
def memWrite16 (s : State) (a : Word) (v : Word) : State := memWrite (memWrite s a (lo8 v)) (a + 1#16) (hi8 v)

/-- The storage cell a read at `a` takes its byte from, where it takes it from one: the cell of a buffer, a byte of
ROM, a byte of cartridge RAM. -/
def readCell (s : State) (a : Word) : Option Loc :=
  match busTarget s a with
  | .romFixed => (romIndex s.cart (fixedBank s.mbc) a.toNat).map Loc.rom
  | .romSwitchable => (romIndex s.cart (switchableBank s.mbc) (a.toNat - 0x4000)).map Loc.rom
  | .cartRam =>
    match mbcRamTarget s.cart s.mbc with
    | .bank n => some (.cartRam n (a.setWidth 13))
    | .none | .clock _ => none
  | .cell l => some l
  | .nothing | .ifReg | .vbk | .svbk | .ieReg => none

/-- The storage cell a write at `a` stores to, where it stores to one; a write to a ROM window stores to none. -/
def storeCell (s : State) (a : Word) : Option Loc :=
  match busTarget s a with
  | .cartRam =>
    match mbcRamTarget s.cart s.mbc with
    | .bank n => some (.cartRam n (a.setWidth 13))
    | .none | .clock _ => none
  | .cell l => some l
  | .romFixed | .romSwitchable | .nothing | .ifReg | .vbk | .svbk | .ieReg => none

/-- The byte in a storage cell. -/
def cellByte (s : State) (l : Loc) : Byte := s.mem.read l.key

end Sys2Proof.Machine
end

