-- ==== Sys2Proof/Machine/Operands.lean ====
section
/-!
DEFINITION. The operand forms of the instruction rules: registers and pairs (spec 10 R20 to R24), the operand `s` of
30 R163 (a register or the byte at HL), the pair fields of 30 R164, and the conditions of 46 R310.
-/
namespace Sys2Proof.Machine

/-- `x[F]` of a set of flags (10 R24). -/
def Flags.toByte (f : Flags) : Byte := bitAt f.z 7 ||| bitAt f.n 6 ||| bitAt f.h 5 ||| bitAt f.c 4

/-- The flags a write of `v` to F leaves; bits 3 to 0 are discarded (10 R24). -/
def Flags.ofByte (v : Byte) : Flags :=
  { z := v.getLsbD 7, n := v.getLsbD 6, h := v.getLsbD 5, c := v.getLsbD 4 }

/-- `x[R]` (00 R8). -/
def State.getReg (s : State) : Reg8 → Byte
  | .a => s.a
  | .b => s.b
  | .c => s.c
  | .d => s.d
  | .e => s.e
  | .h => s.h
  | .l => s.l

/-- `x[R] <- v` (00 R8, 10 R22). -/
def State.setReg (s : State) (r : Reg8) (v : Byte) : State :=
  match r with
  | .a => { s with a := v }
  | .b => { s with b := v }
  | .c => { s with c := v }
  | .d => { s with d := v }
  | .e => { s with e := v }
  | .h => { s with h := v }
  | .l => { s with l := v }

/-- The flags written as a whole. -/
def State.setFlags (s : State) (f : Flags) : State := { s with flags := f }

/-- `xx[BC]` (10 R21). -/
def State.bc (s : State) : Word := word16 s.b s.c

/-- `xx[DE]` (10 R21). -/
def State.de (s : State) : Word := word16 s.d s.e

/-- `xx[HL]` (10 R21). -/
def State.hl (s : State) : Word := word16 s.h s.l

/-- `xx[AF]` (10 R21, R24). -/
def State.af (s : State) : Word := word16 s.a s.flags.toByte

/-- `xx[HL] <- v` (10 R22). -/
def State.setHl (s : State) (v : Word) : State := { s with h := hi8 v, l := lo8 v }

/-- The pair field `pp` read: BC, DE, HL or sp (30 R164). -/
def State.getPair (s : State) : Pair → Word
  | .bc => s.bc
  | .de => s.de
  | .hl => s.hl
  | .sp => s.sp

/-- The pair field `pp` written: high byte to the first register, low byte to the second (10 R22, 30 R164). -/
def State.setPair (s : State) (p : Pair) (v : Word) : State :=
  match p with
  | .bc => { s with b := hi8 v, c := lo8 v }
  | .de => { s with d := hi8 v, e := lo8 v }
  | .hl => { s with h := hi8 v, l := lo8 v }
  | .sp => { s with sp := v }

/-- The pair field `qq` read: BC, DE, HL or AF (30 R164). -/
def State.getStackPair (s : State) : StackPair → Word
  | .bc => s.bc
  | .de => s.de
  | .hl => s.hl
  | .af => s.af

/-- The pair field `qq` written; AF takes the flags from bits 7 to 4 of the low byte (10 R24, 47 R344). -/
def State.setStackPair (s : State) (q : StackPair) (v : Word) : State :=
  match q with
  | .bc => { s with b := hi8 v, c := lo8 v }
  | .de => { s with d := hi8 v, e := lo8 v }
  | .hl => { s with h := hi8 v, l := lo8 v }
  | .af => { s with a := hi8 v, flags := Flags.ofByte (lo8 v) }

/-- The operand `s` read: a register, or `MemRead(xx[HL], 1)` (30 R163). -/
def State.getOperand (s : State) : Operand → Byte
  | .reg r => s.getReg r
  | .mHL => memRead s s.hl

/-- The operand `s` written: a register, or `MemWrite(xx[HL], 1, v)` (30 R163). -/
def State.setOperand (s : State) (o : Operand) (v : Byte) : State :=
  match o with
  | .reg r => s.setReg r v
  | .mHL => memWrite s s.hl v

/-- `cond(cc)` (46 R310). -/
def State.cond (s : State) : Cond → Bool
  | .nz => !s.flags.z
  | .z  => s.flags.z
  | .nc => !s.flags.c
  | .c  => s.flags.c

end Sys2Proof.Machine
end

