-- ==== Sys2Proof/Machine/Flags.lean ====
section
/-!
DEFINITION. Every result and flag computation of the instruction rules: 8-bit arithmetic and logic (spec 42), 16-bit
arithmetic (41 R223, 43), rotates and shifts (44), bit operations (45). Results are computed over the unbounded
integers and narrowed at the end, as 00 R7 reads the pseudocode.
-/
namespace Sys2Proof.Machine

/-! ### 8-bit arithmetic and logic (42) -/

/-- `(a + v + c) mod 2^8` with the flags of ADD and ADC (42 R231, R232). -/
def addResult (a v : Byte) (c : Bool) : Byte × Flags :=
  let t := a.toNat + v.toNat + bitNat c
  let r := BitVec.ofNat 8 t
  (r, { z := decide (r = 0#8), n := false,
        h := decide (lowNibble a + lowNibble v + bitNat c > 0x0F), c := decide (t > 0xFF) })

/-- `(a - v - c) mod 2^8` with the flags of SUB and SBC (42 R233, R234). -/
def subResult (a v : Byte) (c : Bool) : Byte × Flags :=
  let r := a - v - BitVec.ofNat 8 (bitNat c)
  (r, { z := decide (r = 0#8), n := true,
        h := decide (lowNibble a < lowNibble v + bitNat c), c := decide (a.toNat < v.toNat + bitNat c) })

/-- The flags of AND, XOR and OR: Z from the result, N = 0, H as given, C = 0 (42 R235 to R237). -/
def logicFlags (r : Byte) (h : Bool) : Flags := { z := decide (r = 0#8), n := false, h := h, c := false }

/-- One of the eight two-operand operations on A and `v` (42 R231 to R238). -/
def aluResult (op : AluOp) (a v : Byte) (f : Flags) : Byte × Flags :=
  match op with
  | .add => addResult a v false
  | .adc => addResult a v f.c
  | .sub => subResult a v false
  | .sbc => subResult a v f.c
  | .and => (a &&& v, logicFlags (a &&& v) true)
  | .xor => (a ^^^ v, logicFlags (a ^^^ v) false)
  | .or  => (a ||| v, logicFlags (a ||| v) false)
  | .cp  => (a, (subResult a v false).2)

/-- INC: C is unchanged (42 R239). -/
def incResult (a : Byte) (f : Flags) : Byte × Flags :=
  let r := a + 1#8
  (r, { z := decide (r = 0#8), n := false, h := decide (lowNibble a = 0x0F), c := f.c })

/-- DEC: C is unchanged (42 R241). -/
def decResult (a : Byte) (f : Flags) : Byte × Flags :=
  let r := a - 1#8
  (r, { z := decide (r = 0#8), n := true, h := decide (lowNibble a = 0x00), c := f.c })

/-- DAA (42 R243). -/
def daaResult (a : Byte) (f : Flags) : Byte × Flags :=
  if f.n then
    let adj := (if f.h then 0x06#8 else 0#8) ||| (if f.c then 0x60#8 else 0#8)
    let r := a - adj
    (r, { z := decide (r = 0#8), n := f.n, h := false, c := f.c })
  else
    let low := f.h || decide (lowNibble a > 0x09)
    let high := f.c || decide (a.toNat > 0x99)
    let adj := (if low then 0x06#8 else 0#8) ||| (if high then 0x60#8 else 0#8)
    let r := a + adj
    (r, { z := decide (r = 0#8), n := f.n, h := false, c := high })

/-- CPL: N = 1, H = 1, Z and C unchanged (42 R244). -/
def cplResult (a : Byte) (f : Flags) : Byte × Flags := (a ^^^ 0xFF#8, { f with n := true, h := true })

/-- SCF (42 R245). -/
def scfFlags (f : Flags) : Flags := { f with n := false, h := false, c := true }

/-- CCF (42 R246). -/
def ccfFlags (f : Flags) : Flags := { f with n := false, h := false, c := !f.c }

/-! ### 16-bit arithmetic (43, 41 R223) -/

/-- ADD HL,rr: H from bit 11, C from bit 15, Z unchanged (43 R260). -/
def addHlResult (a v : Word) (f : Flags) : Word × Flags :=
  (a + v, { z := f.z, n := false,
            h := decide ((a &&& 0x0FFF#16).toNat + (v &&& 0x0FFF#16).toNat > 0x0FFF),
            c := decide (a.toNat + v.toNat > 0xFFFF) })

/-- `sp + sext_16(u)` with the flags of ADD SP,e and LD HL,SP+e: Z = 0, N = 0, H and C from the unsigned addition of
the low byte of sp and `u` (41 R223, 43 R263). -/
def spPlusResult (sp : Word) (u : Byte) : Word × Flags :=
  (sp + sext16 u, { z := false, n := false,
                    h := decide ((sp &&& 0x000F#16).toNat + lowNibble u > 0x0F),
                    c := decide ((sp &&& 0x00FF#16).toNat + u.toNat > 0xFF) })

/-! ### Rotates, shifts, SWAP (44) -/

/-- The result and the carry out of one of the eight rotate and shift operations (44 R275 to R282). -/
def rotResult (op : RotOp) (a : Byte) (c : Bool) : Byte × Bool :=
  match op with
  | .rlc  => ((a <<< 1) ||| bitAt (a.getLsbD 7) 0, a.getLsbD 7)
  | .rrc  => ((a >>> 1) ||| bitAt (a.getLsbD 0) 7, a.getLsbD 0)
  | .rl   => ((a <<< 1) ||| bitAt c 0, a.getLsbD 7)
  | .rr   => ((a >>> 1) ||| bitAt c 7, a.getLsbD 0)
  | .sla  => (a <<< 1, a.getLsbD 7)
  | .sra  => ((a >>> 1) ||| (a &&& 0x80#8), a.getLsbD 0)
  | .swap => (((a &&& 0x0F#8) <<< 4) ||| (a >>> 4), false)
  | .srl  => (a >>> 1, a.getLsbD 0)

/-- The flags of the CB-prefixed forms: Z from the result, N = 0, H = 0 (44 R274). -/
def rotFlags (r : Byte) (c : Bool) : Flags := { z := decide (r = 0#8), n := false, h := false, c := c }

/-- The flags of RLCA, RRCA, RLA, RRA: Z = 0 whatever the result (44 R270 to R273). -/
def rotAFlags (c : Bool) : Flags := { z := false, n := false, h := false, c := c }

/-! ### Bit operations (45) -/

/-- BIT b: Z from the tested bit, N = 0, H = 1, C unchanged (45 R300). -/
def bitFlags (b : Fin 8) (a : Byte) (f : Flags) : Flags :=
  { z := !a.getLsbD b.val, n := false, h := true, c := f.c }

/-- RES b (45 R301). -/
def resResult (b : Fin 8) (a : Byte) : Byte := a &&& (0xFF#8 ^^^ (1#8 <<< b.val))

/-- SET b (45 R302). -/
def setResult (b : Fin 8) (a : Byte) : Byte := a ||| (1#8 <<< b.val)

end Sys2Proof.Machine
end

