-- ==== Sys2Proof/Machine/Ops.lean ====
section
/-!
DEFINITION. The named operations the meanings and the step share: moving past an instruction (spec 10 R26, R30), the
stack primitives (47 R340, R341), taking an interrupt (60 R410, R411, R420) and returning from one (46 R320), fetching
the next instruction (30 R172), and the two ends of a step (60 R402).
-/
namespace Sys2Proof.Machine

/-- pc past an instruction of `len` bytes, and its cost in T-cycles added (10 R26, R30). -/
def State.retire (s : State) (len : Word) (cost : Nat) : State := { s with pc := s.pc + len, cycles := s.cycles + cost }

/-- `pc <- target` (00 R8). -/
def State.jump (s : State) (target : Word) : State := { s with pc := target }

/-- The outcome of an operation that answers a state or a fault. -/
def orFault (r : Except Fault State) : Result :=
  match r with
  | .ok s => .next s
  | .error f => .fault f

/-! ### The stack primitives (47) -/

/-- `push16(v)`: high byte at sp - 1, low byte at sp - 2, sp tested before anything is written (47 R340). -/
def push16 (v : Word) (s : State) : Except Fault State :=
  if s.sp.toNat < 2 then .error (.raised (.stackFault s.sp))
  else
    let s1 := memWrite { s with sp := s.sp - 1#16 } (s.sp - 1#16) (hi8 v)
    .ok (memWrite { s1 with sp := s1.sp - 1#16 } (s1.sp - 1#16) (lo8 v))

/-- `pop16()`: low byte at sp, high byte at sp + 1, sp tested before anything is read (47 R341). -/
def pop16 (s : State) : Except Fault (Word × State) :=
  if s.sp.toNat > 0xFFFD then .error (.raised (.stackFault s.sp))
  else .ok (memRead16 s s.sp, { s with sp := s.sp + 2#16 })

/-! ### Interrupts: taking one, and returning (60, 46 R320) -/

/-- `IE & io[0x0F] & 0x1F` (60 R410). -/
def pending (s : State) : BitVec 5 := s.ieReg.setWidth 5 &&& s.ifReg

/-- The lowest set bit of a non-zero request set (60 R411). -/
def lowestSource (p : BitVec 5) : Nat :=
  if p.getLsbD 0 then 0
  else if p.getLsbD 1 then 1
  else if p.getLsbD 2 then 2
  else if p.getLsbD 3 then 3
  else 4

/-- The vector of source `i`: `0x0040 + 8 * i` (60 R411). -/
def vectorOf (i : Nat) : Word := BitVec.ofNat 16 (0x40 + 8 * i)

/-- Interrupt dispatch (60 R420): acknowledge, close the gate, push pc, jump to the vector. The one way this machine
takes an exception. A stack fault discards everything. -/
def dispatchInterrupt (s : State) : Result :=
  let i := lowestSource (pending s)
  let s1 := { s with ifReg := s.ifReg &&& ~~~(1#5 <<< i), ime := false, eiPending := false }
  match push16 s.pc s1 with
  | .ok s2 => .next { s2 with pc := vectorOf i, cycles := s2.cycles + 20 }
  | .error f => .fault f

/-- The return from an interrupt handler (46 R320): pop pc, open the gate at once. -/
def returnFromInterrupt (s : State) : Result :=
  match pop16 s with
  | .ok (v, s1) => .next { s1 with pc := v, ime := true, eiPending := false }
  | .error f => .fault f

/-- The fatal decode error of an unassigned byte; pc is the address it was fetched from (48 R356). -/
def raiseDecodeFault (op : Byte) (s : State) : Result := .fault (.raised (.decodeFault op s.pc))

/-! ### Fetching, and the two ends of a step (60 R402) -/

/-- The instruction at pc: the row of the tables for the bytes there (30 R172). Reads have no effect (20 R94), so
reading three bytes at once is reading the ones the instruction has (log entry 8). -/
def fetchInstr (s : State) : Instr :=
  decodeBytes (memRead s s.pc) (memRead s (s.pc + 1#16)) (memRead s (s.pc + 2#16))

/-- EI is the one instruction whose own step does not consume `ei_pending` (60 R402). -/
def isEi (i : Instr) : Bool :=
  match i with
  | .ei => true
  | _ => false

/-- The end of an instruction's step: a pending EI takes effect (60 R402; only with EI_DELAY = 1). -/
def finishStep (i : Instr) (s : State) : State :=
  if s.eiPending && !isEi i then { s with ime := true, eiPending := false } else s

/-- The beginning of a step: a pending enabled interrupt ends the halted state (60 R402). -/
def wakeIfPending (s : State) : State := if pending s = 0#5 then s else { s with halted := false }

/-- A halted idle step: 4 cycles, nothing else (60 R402). -/
def idleStep (s : State) : State := { s with cycles := s.cycles + 4 }

/-! ### Placing bytes from outside (60 R460) -/

/-- A raw write to a storage cell, without address decoding (60 R460, raw buffer access). -/
def State.poke (s : State) (l : Loc) (v : Byte) : State := { s with mem := s.mem.write l.key v }

/-- Put byte `v` where a read of address `a` finds it, where it reads a storage cell or IE. It stands for the load of a
program from outside (log entry 7). -/
def placeByte (s : State) (a : Word) (v : Byte) : State :=
  match readCell s a with
  | some l => s.poke l v
  | none => if a = 0xFFFF#16 then { s with ieReg := v } else s

/-- Make the next step fetch: no fault, not stopped, not halted, and no interrupt about to be taken (60 R402). -/
def readyToFetch (s : State) : State :=
  { s with fault := none, stopped := false, halted := false, ime := s.ime && decide (pending s = 0#5) }

/-- Lay bytes out at pc and after it. -/
def placeBytes (s : State) (a : Word) : List Byte → State
  | [] => s
  | v :: rest => placeBytes (placeByte s a v) (a + 1#16) rest

end Sys2Proof.Machine
end

