-- ==== Sys2Proof/Machine/Alu16.lean ====
section
/-!
DEFINITION. The meanings of the 16-bit arithmetic instructions (spec 43 R260 to R263). None can fault: sp wraps here.
-/
namespace Sys2Proof.Machine

/-! ### Shared forms -/

/-- `ADD HL,rr` (R260). -/
def addHl (p : Pair) (s : State) : Result :=
  let r := addHlResult s.hl (s.getPair p) s.flags
  .next (((s.retire 1 8).setHl r.1).setFlags r.2)

/-! ### The instructions -/

/-- `INC BC` (R261). -/
def execInc_BC (s : State) : Result := .next ((s.retire 1 8).setPair .bc (s.getPair .bc + 1#16))

/-- `ADD HL,BC` (R260). -/
def execAdd_HL_BC (s : State) : Result := addHl .bc s

/-- `DEC BC` (R262). -/
def execDec_BC (s : State) : Result := .next ((s.retire 1 8).setPair .bc (s.getPair .bc - 1#16))

/-- `INC DE` (R261). -/
def execInc_DE (s : State) : Result := .next ((s.retire 1 8).setPair .de (s.getPair .de + 1#16))

/-- `ADD HL,DE` (R260). -/
def execAdd_HL_DE (s : State) : Result := addHl .de s

/-- `DEC DE` (R262). -/
def execDec_DE (s : State) : Result := .next ((s.retire 1 8).setPair .de (s.getPair .de - 1#16))

/-- `INC HL` (R261). -/
def execInc_HL (s : State) : Result := .next ((s.retire 1 8).setPair .hl (s.getPair .hl + 1#16))

/-- `ADD HL,HL` (R260). -/
def execAdd_HL_HL (s : State) : Result := addHl .hl s

/-- `DEC HL` (R262). -/
def execDec_HL (s : State) : Result := .next ((s.retire 1 8).setPair .hl (s.getPair .hl - 1#16))

/-- `INC SP` (R261). -/
def execInc_SP (s : State) : Result := .next ((s.retire 1 8).setPair .sp (s.getPair .sp + 1#16))

/-- `ADD HL,SP` (R260). -/
def execAdd_HL_SP (s : State) : Result := addHl .sp s

/-- `DEC SP` (R262). -/
def execDec_SP (s : State) : Result := .next ((s.retire 1 8).setPair .sp (s.getPair .sp - 1#16))

/-- `ADD SP,e` (R263). -/
def execAdd_SP_e (e : Byte) (s : State) : Result :=
  let r := spPlusResult s.sp e
  .next (((s.retire 2 16).setPair .sp r.1).setFlags r.2)

end Sys2Proof.Machine
end

