-- ==== Sys2Proof/Machine/Alu8.lean ====
section
/-!
DEFINITION. The meanings of the 8-bit arithmetic and logic instructions (spec 42 R230 to R246). None can fault.
-/
namespace Sys2Proof.Machine

/-! ### Shared forms -/

/-- A cost that depends on the operand: a register, or the byte at HL. -/
def operandCost (o : Operand) (reg mem : Nat) : Nat :=
  match o with
  | .reg _ => reg
  | .mHL => mem

/-- `op A,s` with a register or (HL) (R230 to R238). -/
def aluOperand (op : AluOp) (o : Operand) (s : State) : Result :=
  let r := aluResult op s.a (s.getOperand o) s.flags
  .next (((s.retire 1 (operandCost o 4 8)).setReg .a r.1).setFlags r.2)

/-- `op A,n` (R230 to R238). -/
def aluImmediate (op : AluOp) (n : Byte) (s : State) : Result :=
  let r := aluResult op s.a n s.flags
  .next (((s.retire 2 8).setReg .a r.1).setFlags r.2)

/-- `INC s` (R239, R240). -/
def incOperand (o : Operand) (s : State) : Result :=
  let r := incResult (s.getOperand o) s.flags
  .next (((s.retire 1 (operandCost o 4 12)).setOperand o r.1).setFlags r.2)

/-- `DEC s` (R241, R242). -/
def decOperand (o : Operand) (s : State) : Result :=
  let r := decResult (s.getOperand o) s.flags
  .next (((s.retire 1 (operandCost o 4 12)).setOperand o r.1).setFlags r.2)

/-! ### The instructions -/

/-- `INC B` (R239). -/
def execInc_B (s : State) : Result := incOperand (.reg .b) s

/-- `DEC B` (R241). -/
def execDec_B (s : State) : Result := decOperand (.reg .b) s

/-- `INC C` (R239). -/
def execInc_C (s : State) : Result := incOperand (.reg .c) s

/-- `DEC C` (R241). -/
def execDec_C (s : State) : Result := decOperand (.reg .c) s

/-- `INC D` (R239). -/
def execInc_D (s : State) : Result := incOperand (.reg .d) s

/-- `DEC D` (R241). -/
def execDec_D (s : State) : Result := decOperand (.reg .d) s

/-- `INC E` (R239). -/
def execInc_E (s : State) : Result := incOperand (.reg .e) s

/-- `DEC E` (R241). -/
def execDec_E (s : State) : Result := decOperand (.reg .e) s

/-- `INC H` (R239). -/
def execInc_H (s : State) : Result := incOperand (.reg .h) s

/-- `DEC H` (R241). -/
def execDec_H (s : State) : Result := decOperand (.reg .h) s

/-- `DAA` (R243). -/
def execDaa (s : State) : Result :=
  let r := daaResult s.a s.flags
  .next (((s.retire 1 4).setReg .a r.1).setFlags r.2)

/-- `INC L` (R239). -/
def execInc_L (s : State) : Result := incOperand (.reg .l) s

/-- `DEC L` (R241). -/
def execDec_L (s : State) : Result := decOperand (.reg .l) s

/-- `CPL` (R244). -/
def execCpl (s : State) : Result :=
  let r := cplResult s.a s.flags
  .next (((s.retire 1 4).setReg .a r.1).setFlags r.2)

/-- `INC (HL)` (R240). -/
def execInc_mHL (s : State) : Result := incOperand .mHL s

/-- `DEC (HL)` (R242). -/
def execDec_mHL (s : State) : Result := decOperand .mHL s

/-- `SCF` (R245). -/
def execScf (s : State) : Result := .next ((s.retire 1 4).setFlags (scfFlags s.flags))

/-- `INC A` (R239). -/
def execInc_A (s : State) : Result := incOperand (.reg .a) s

/-- `DEC A` (R241). -/
def execDec_A (s : State) : Result := decOperand (.reg .a) s

/-- `CCF` (R246). -/
def execCcf (s : State) : Result := .next ((s.retire 1 4).setFlags (ccfFlags s.flags))

/-- `ADD A,B` (R231). -/
def execAdd_A_B (s : State) : Result := aluOperand .add (.reg .b) s

/-- `ADD A,C` (R231). -/
def execAdd_A_C (s : State) : Result := aluOperand .add (.reg .c) s

/-- `ADD A,D` (R231). -/
def execAdd_A_D (s : State) : Result := aluOperand .add (.reg .d) s

/-- `ADD A,E` (R231). -/
def execAdd_A_E (s : State) : Result := aluOperand .add (.reg .e) s

/-- `ADD A,H` (R231). -/
def execAdd_A_H (s : State) : Result := aluOperand .add (.reg .h) s

/-- `ADD A,L` (R231). -/
def execAdd_A_L (s : State) : Result := aluOperand .add (.reg .l) s

/-- `ADD A,(HL)` (R231). -/
def execAdd_A_mHL (s : State) : Result := aluOperand .add .mHL s

/-- `ADD A,A` (R231). -/
def execAdd_A_A (s : State) : Result := aluOperand .add (.reg .a) s

/-- `ADC A,B` (R232). -/
def execAdc_A_B (s : State) : Result := aluOperand .adc (.reg .b) s

/-- `ADC A,C` (R232). -/
def execAdc_A_C (s : State) : Result := aluOperand .adc (.reg .c) s

/-- `ADC A,D` (R232). -/
def execAdc_A_D (s : State) : Result := aluOperand .adc (.reg .d) s

/-- `ADC A,E` (R232). -/
def execAdc_A_E (s : State) : Result := aluOperand .adc (.reg .e) s

/-- `ADC A,H` (R232). -/
def execAdc_A_H (s : State) : Result := aluOperand .adc (.reg .h) s

/-- `ADC A,L` (R232). -/
def execAdc_A_L (s : State) : Result := aluOperand .adc (.reg .l) s

/-- `ADC A,(HL)` (R232). -/
def execAdc_A_mHL (s : State) : Result := aluOperand .adc .mHL s

/-- `ADC A,A` (R232). -/
def execAdc_A_A (s : State) : Result := aluOperand .adc (.reg .a) s

/-- `SUB B` (R233). -/
def execSub_B (s : State) : Result := aluOperand .sub (.reg .b) s

/-- `SUB C` (R233). -/
def execSub_C (s : State) : Result := aluOperand .sub (.reg .c) s

/-- `SUB D` (R233). -/
def execSub_D (s : State) : Result := aluOperand .sub (.reg .d) s

/-- `SUB E` (R233). -/
def execSub_E (s : State) : Result := aluOperand .sub (.reg .e) s

/-- `SUB H` (R233). -/
def execSub_H (s : State) : Result := aluOperand .sub (.reg .h) s

/-- `SUB L` (R233). -/
def execSub_L (s : State) : Result := aluOperand .sub (.reg .l) s

/-- `SUB (HL)` (R233). -/
def execSub_mHL (s : State) : Result := aluOperand .sub .mHL s

/-- `SUB A` (R233). -/
def execSub_A (s : State) : Result := aluOperand .sub (.reg .a) s

/-- `SBC A,B` (R234). -/
def execSbc_A_B (s : State) : Result := aluOperand .sbc (.reg .b) s

/-- `SBC A,C` (R234). -/
def execSbc_A_C (s : State) : Result := aluOperand .sbc (.reg .c) s

/-- `SBC A,D` (R234). -/
def execSbc_A_D (s : State) : Result := aluOperand .sbc (.reg .d) s

/-- `SBC A,E` (R234). -/
def execSbc_A_E (s : State) : Result := aluOperand .sbc (.reg .e) s

/-- `SBC A,H` (R234). -/
def execSbc_A_H (s : State) : Result := aluOperand .sbc (.reg .h) s

/-- `SBC A,L` (R234). -/
def execSbc_A_L (s : State) : Result := aluOperand .sbc (.reg .l) s

/-- `SBC A,(HL)` (R234). -/
def execSbc_A_mHL (s : State) : Result := aluOperand .sbc .mHL s

/-- `SBC A,A` (R234). -/
def execSbc_A_A (s : State) : Result := aluOperand .sbc (.reg .a) s

/-- `AND B` (R235). -/
def execAnd_B (s : State) : Result := aluOperand .and (.reg .b) s

/-- `AND C` (R235). -/
def execAnd_C (s : State) : Result := aluOperand .and (.reg .c) s

/-- `AND D` (R235). -/
def execAnd_D (s : State) : Result := aluOperand .and (.reg .d) s

/-- `AND E` (R235). -/
def execAnd_E (s : State) : Result := aluOperand .and (.reg .e) s

/-- `AND H` (R235). -/
def execAnd_H (s : State) : Result := aluOperand .and (.reg .h) s

/-- `AND L` (R235). -/
def execAnd_L (s : State) : Result := aluOperand .and (.reg .l) s

/-- `AND (HL)` (R235). -/
def execAnd_mHL (s : State) : Result := aluOperand .and .mHL s

/-- `AND A` (R235). -/
def execAnd_A (s : State) : Result := aluOperand .and (.reg .a) s

/-- `XOR B` (R236). -/
def execXor_B (s : State) : Result := aluOperand .xor (.reg .b) s

/-- `XOR C` (R236). -/
def execXor_C (s : State) : Result := aluOperand .xor (.reg .c) s

/-- `XOR D` (R236). -/
def execXor_D (s : State) : Result := aluOperand .xor (.reg .d) s

/-- `XOR E` (R236). -/
def execXor_E (s : State) : Result := aluOperand .xor (.reg .e) s

/-- `XOR H` (R236). -/
def execXor_H (s : State) : Result := aluOperand .xor (.reg .h) s

/-- `XOR L` (R236). -/
def execXor_L (s : State) : Result := aluOperand .xor (.reg .l) s

/-- `XOR (HL)` (R236). -/
def execXor_mHL (s : State) : Result := aluOperand .xor .mHL s

/-- `XOR A` (R236). -/
def execXor_A (s : State) : Result := aluOperand .xor (.reg .a) s

/-- `OR B` (R237). -/
def execOr_B (s : State) : Result := aluOperand .or (.reg .b) s

/-- `OR C` (R237). -/
def execOr_C (s : State) : Result := aluOperand .or (.reg .c) s

/-- `OR D` (R237). -/
def execOr_D (s : State) : Result := aluOperand .or (.reg .d) s

/-- `OR E` (R237). -/
def execOr_E (s : State) : Result := aluOperand .or (.reg .e) s

/-- `OR H` (R237). -/
def execOr_H (s : State) : Result := aluOperand .or (.reg .h) s

/-- `OR L` (R237). -/
def execOr_L (s : State) : Result := aluOperand .or (.reg .l) s

/-- `OR (HL)` (R237). -/
def execOr_mHL (s : State) : Result := aluOperand .or .mHL s

/-- `OR A` (R237). -/
def execOr_A (s : State) : Result := aluOperand .or (.reg .a) s

/-- `CP B` (R238). -/
def execCp_B (s : State) : Result := aluOperand .cp (.reg .b) s

/-- `CP C` (R238). -/
def execCp_C (s : State) : Result := aluOperand .cp (.reg .c) s

/-- `CP D` (R238). -/
def execCp_D (s : State) : Result := aluOperand .cp (.reg .d) s

/-- `CP E` (R238). -/
def execCp_E (s : State) : Result := aluOperand .cp (.reg .e) s

/-- `CP H` (R238). -/
def execCp_H (s : State) : Result := aluOperand .cp (.reg .h) s

/-- `CP L` (R238). -/
def execCp_L (s : State) : Result := aluOperand .cp (.reg .l) s

/-- `CP (HL)` (R238). -/
def execCp_mHL (s : State) : Result := aluOperand .cp .mHL s

/-- `CP A` (R238). -/
def execCp_A (s : State) : Result := aluOperand .cp (.reg .a) s

/-- `ADD A,n` (R231). -/
def execAdd_A_n (n : Byte) (s : State) : Result := aluImmediate .add n s

/-- `ADC A,n` (R232). -/
def execAdc_A_n (n : Byte) (s : State) : Result := aluImmediate .adc n s

/-- `SUB n` (R233). -/
def execSub_n (n : Byte) (s : State) : Result := aluImmediate .sub n s

/-- `SBC A,n` (R234). -/
def execSbc_A_n (n : Byte) (s : State) : Result := aluImmediate .sbc n s

/-- `AND n` (R235). -/
def execAnd_n (n : Byte) (s : State) : Result := aluImmediate .and n s

/-- `XOR n` (R236). -/
def execXor_n (n : Byte) (s : State) : Result := aluImmediate .xor n s

/-- `OR n` (R237). -/
def execOr_n (n : Byte) (s : State) : Result := aluImmediate .or n s

/-- `CP n` (R238). -/
def execCp_n (n : Byte) (s : State) : Result := aluImmediate .cp n s

end Sys2Proof.Machine
end

