-- ==== Sys2Proof/Machine/Control.lean ====
section
/-!
DEFINITION. The meanings of NOP, HALT, STOP, DI, EI (spec 48 R350 to R354) and of the eleven unassigned bytes (R356).
-/
namespace Sys2Proof.Machine

/-! ### The instructions -/

/-- `NOP` (R350). -/
def execNop (s : State) : Result := .next (s.retire 1 4)

/-- `STOP` (R352). -/
def execStop (_n : Byte) (s : State) : Result := .next { s.retire 2 4 with stopped := true }

/-- `HALT` (R351). -/
def execHalt (s : State) : Result := .next { s.retire 1 4 with halted := true }

/-- `UNASSIGNED_D3` (R356). -/
def execUnassigned_D3 (s : State) : Result := raiseDecodeFault 0xD3#8 s

/-- `UNASSIGNED_DB` (R356). -/
def execUnassigned_DB (s : State) : Result := raiseDecodeFault 0xDB#8 s

/-- `UNASSIGNED_DD` (R356). -/
def execUnassigned_DD (s : State) : Result := raiseDecodeFault 0xDD#8 s

/-- `UNASSIGNED_E3` (R356). -/
def execUnassigned_E3 (s : State) : Result := raiseDecodeFault 0xE3#8 s

/-- `UNASSIGNED_E4` (R356). -/
def execUnassigned_E4 (s : State) : Result := raiseDecodeFault 0xE4#8 s

/-- `UNASSIGNED_EB` (R356). -/
def execUnassigned_EB (s : State) : Result := raiseDecodeFault 0xEB#8 s

/-- `UNASSIGNED_EC` (R356). -/
def execUnassigned_EC (s : State) : Result := raiseDecodeFault 0xEC#8 s

/-- `UNASSIGNED_ED` (R356). -/
def execUnassigned_ED (s : State) : Result := raiseDecodeFault 0xED#8 s

/-- `DI` (R353). -/
def execDi (s : State) : Result := .next { s.retire 1 4 with ime := false, eiPending := false }

/-- `UNASSIGNED_F4` (R356). -/
def execUnassigned_F4 (s : State) : Result := raiseDecodeFault 0xF4#8 s

/-- `EI` (R354). -/
def execEi (s : State) : Result :=
  if s.eiDelay then .next { s.retire 1 4 with eiPending := true }
  else .next { s.retire 1 4 with ime := true }

/-- `UNASSIGNED_FC` (R356). -/
def execUnassigned_FC (s : State) : Result := raiseDecodeFault 0xFC#8 s

/-- `UNASSIGNED_FD` (R356). -/
def execUnassigned_FD (s : State) : Result := raiseDecodeFault 0xFD#8 s

end Sys2Proof.Machine
end

