-- ==== Sys2Proof/Machine/Jump.lean ====
section
/-!
DEFINITION. The meanings of the jumps, calls, returns and restarts (spec 46 R311 to R321). Calls, restarts and returns
fault where the stack primitive does, with nothing changed.
-/
namespace Sys2Proof.Machine

/-! ### Shared forms -/

/-- `JP cc,nn`: 16 cycles taken, 12 not (R312). -/
def jpIf (cc : Cond) (nn : Word) (s : State) : Result :=
  if s.cond cc then .next ((s.retire 3 16).jump nn) else .next (s.retire 3 12)

/-- `JR cc,e`: 12 cycles taken, 8 not; the displacement counts from the next instruction (R315). -/
def jrIf (cc : Cond) (e : Byte) (s : State) : Result :=
  if s.cond cc then .next ((s.retire 2 12).jump (s.pc + 2#16 + sext16 e)) else .next (s.retire 2 8)

/-- Push pc, which is already past the instruction, and jump (R316, R321). -/
def callTo (target : Word) (s : State) : Result :=
  match push16 s.pc s with
  | .ok s1 => .next (s1.jump target)
  | .error f => .fault f

/-- `CALL cc,nn`: 24 cycles taken, 12 not; not taken it cannot fault (R317). -/
def callIf (cc : Cond) (nn : Word) (s : State) : Result :=
  if s.cond cc then callTo nn (s.retire 3 24) else .next (s.retire 3 12)

/-- Pop pc (R318). -/
def retFrom (s : State) : Result :=
  match pop16 s with
  | .ok (v, s1) => .next (s1.jump v)
  | .error f => .fault f

/-- `RET cc`: 20 cycles taken, 8 not; not taken it reads no memory and cannot fault (R319). -/
def retIf (cc : Cond) (s : State) : Result :=
  if s.cond cc then retFrom (s.retire 1 20) else .next (s.retire 1 8)

/-! ### The instructions -/

/-- `JR e` (R314). -/
def execJr_e (e : Byte) (s : State) : Result := .next ((s.retire 2 12).jump (s.pc + 2#16 + sext16 e))

/-- `JR NZ,e` (R315). -/
def execJr_NZ_e (e : Byte) (s : State) : Result := jrIf .nz e s

/-- `JR Z,e` (R315). -/
def execJr_Z_e (e : Byte) (s : State) : Result := jrIf .z e s

/-- `JR NC,e` (R315). -/
def execJr_NC_e (e : Byte) (s : State) : Result := jrIf .nc e s

/-- `JR C,e` (R315). -/
def execJr_C_e (e : Byte) (s : State) : Result := jrIf .c e s

/-- `RET NZ` (R319). -/
def execRet_NZ (s : State) : Result := retIf .nz s

/-- `JP NZ,nn` (R312). -/
def execJp_NZ_nn (nn : Word) (s : State) : Result := jpIf .nz nn s

/-- `JP nn` (R311). -/
def execJp_nn (nn : Word) (s : State) : Result := .next ((s.retire 3 16).jump nn)

/-- `CALL NZ,nn` (R317). -/
def execCall_NZ_nn (nn : Word) (s : State) : Result := callIf .nz nn s

/-- `RST 00H` (R321). -/
def execRst_00H (s : State) : Result := callTo 0x00#16 (s.retire 1 16)

/-- `RET Z` (R319). -/
def execRet_Z (s : State) : Result := retIf .z s

/-- `RET` (R318). -/
def execRet (s : State) : Result := retFrom (s.retire 1 16)

/-- `JP Z,nn` (R312). -/
def execJp_Z_nn (nn : Word) (s : State) : Result := jpIf .z nn s

/-- `CALL Z,nn` (R317). -/
def execCall_Z_nn (nn : Word) (s : State) : Result := callIf .z nn s

/-- `CALL nn` (R316). -/
def execCall_nn (nn : Word) (s : State) : Result := callTo nn (s.retire 3 24)

/-- `RST 08H` (R321). -/
def execRst_08H (s : State) : Result := callTo 0x08#16 (s.retire 1 16)

/-- `RET NC` (R319). -/
def execRet_NC (s : State) : Result := retIf .nc s

/-- `JP NC,nn` (R312). -/
def execJp_NC_nn (nn : Word) (s : State) : Result := jpIf .nc nn s

/-- `CALL NC,nn` (R317). -/
def execCall_NC_nn (nn : Word) (s : State) : Result := callIf .nc nn s

/-- `RST 10H` (R321). -/
def execRst_10H (s : State) : Result := callTo 0x10#16 (s.retire 1 16)

/-- `RET C` (R319). -/
def execRet_C (s : State) : Result := retIf .c s

/-- `RETI` (R320). -/
def execReti (s : State) : Result := returnFromInterrupt (s.retire 1 16)

/-- `JP C,nn` (R312). -/
def execJp_C_nn (nn : Word) (s : State) : Result := jpIf .c nn s

/-- `CALL C,nn` (R317). -/
def execCall_C_nn (nn : Word) (s : State) : Result := callIf .c nn s

/-- `RST 18H` (R321). -/
def execRst_18H (s : State) : Result := callTo 0x18#16 (s.retire 1 16)

/-- `RST 20H` (R321). -/
def execRst_20H (s : State) : Result := callTo 0x20#16 (s.retire 1 16)

/-- `JP HL` (R313). -/
def execJp_HL (s : State) : Result := .next ((s.retire 1 4).jump s.hl)

/-- `RST 28H` (R321). -/
def execRst_28H (s : State) : Result := callTo 0x28#16 (s.retire 1 16)

/-- `RST 30H` (R321). -/
def execRst_30H (s : State) : Result := callTo 0x30#16 (s.retire 1 16)

/-- `RST 38H` (R321). -/
def execRst_38H (s : State) : Result := callTo 0x38#16 (s.retire 1 16)

end Sys2Proof.Machine
end

