-- ==== Sys2Proof/Machine/Load16.lean ====
section
/-!
DEFINITION. The meanings of the 16-bit loads (spec 41 R220 to R223). None can fault.
-/
namespace Sys2Proof.Machine

/-! ### The instructions -/

/-- `LD BC,nn` (R220). -/
def execLd_BC_nn (nn : Word) (s : State) : Result := .next ((s.retire 3 12).setPair .bc nn)

/-- `LD (nn),SP` (R221). -/
def execLd_mnn_SP (nn : Word) (s : State) : Result := .next (memWrite16 (s.retire 3 20) nn s.sp)

/-- `LD DE,nn` (R220). -/
def execLd_DE_nn (nn : Word) (s : State) : Result := .next ((s.retire 3 12).setPair .de nn)

/-- `LD HL,nn` (R220). -/
def execLd_HL_nn (nn : Word) (s : State) : Result := .next ((s.retire 3 12).setPair .hl nn)

/-- `LD SP,nn` (R220). -/
def execLd_SP_nn (nn : Word) (s : State) : Result := .next ((s.retire 3 12).setPair .sp nn)

/-- `LD HL,SP+e` (R223). -/
def execLd_HL_SPe (e : Byte) (s : State) : Result :=
  let r := spPlusResult s.sp e
  .next (((s.retire 2 12).setHl r.1).setFlags r.2)

/-- `LD SP,HL` (R222). -/
def execLd_SP_HL (s : State) : Result := .next ((s.retire 1 8).setPair .sp s.hl)

end Sys2Proof.Machine
end

