-- ==== Sys2Proof/Machine/Rotate.lean ====
section
/-!
DEFINITION. The meanings of the rotates, shifts and SWAP (spec 44 R270 to R282). None can fault.
-/
namespace Sys2Proof.Machine

/-! ### Shared forms -/

/-- RLCA, RRCA, RLA, RRA: the operation on A with Z cleared (R270 to R273). -/
def rotAccumulator (op : RotOp) (s : State) : Result :=
  let r := rotResult op s.a s.flags.c
  .next (((s.retire 1 4).setReg .a r.1).setFlags (rotAFlags r.2))

/-- A CB-prefixed rotate or shift on `s` (R274 to R282). -/
def rotOperand (op : RotOp) (o : Operand) (s : State) : Result :=
  let r := rotResult op (s.getOperand o) s.flags.c
  .next (((s.retire 2 (operandCost o 8 16)).setOperand o r.1).setFlags (rotFlags r.1 r.2))

/-! ### The instructions -/

/-- `RLCA` (R270). -/
def execRlca (s : State) : Result := rotAccumulator .rlc s

/-- `RRCA` (R271). -/
def execRrca (s : State) : Result := rotAccumulator .rrc s

/-- `RLA` (R272). -/
def execRla (s : State) : Result := rotAccumulator .rl s

/-- `RRA` (R273). -/
def execRra (s : State) : Result := rotAccumulator .rr s

/-- `RLC B` (R275). -/
def execRlc_B (s : State) : Result := rotOperand .rlc (.reg .b) s

/-- `RLC C` (R275). -/
def execRlc_C (s : State) : Result := rotOperand .rlc (.reg .c) s

/-- `RLC D` (R275). -/
def execRlc_D (s : State) : Result := rotOperand .rlc (.reg .d) s

/-- `RLC E` (R275). -/
def execRlc_E (s : State) : Result := rotOperand .rlc (.reg .e) s

/-- `RLC H` (R275). -/
def execRlc_H (s : State) : Result := rotOperand .rlc (.reg .h) s

/-- `RLC L` (R275). -/
def execRlc_L (s : State) : Result := rotOperand .rlc (.reg .l) s

/-- `RLC (HL)` (R275). -/
def execRlc_mHL (s : State) : Result := rotOperand .rlc .mHL s

/-- `RLC A` (R275). -/
def execRlc_A (s : State) : Result := rotOperand .rlc (.reg .a) s

/-- `RRC B` (R276). -/
def execRrc_B (s : State) : Result := rotOperand .rrc (.reg .b) s

/-- `RRC C` (R276). -/
def execRrc_C (s : State) : Result := rotOperand .rrc (.reg .c) s

/-- `RRC D` (R276). -/
def execRrc_D (s : State) : Result := rotOperand .rrc (.reg .d) s

/-- `RRC E` (R276). -/
def execRrc_E (s : State) : Result := rotOperand .rrc (.reg .e) s

/-- `RRC H` (R276). -/
def execRrc_H (s : State) : Result := rotOperand .rrc (.reg .h) s

/-- `RRC L` (R276). -/
def execRrc_L (s : State) : Result := rotOperand .rrc (.reg .l) s

/-- `RRC (HL)` (R276). -/
def execRrc_mHL (s : State) : Result := rotOperand .rrc .mHL s

/-- `RRC A` (R276). -/
def execRrc_A (s : State) : Result := rotOperand .rrc (.reg .a) s

/-- `RL B` (R277). -/
def execRl_B (s : State) : Result := rotOperand .rl (.reg .b) s

/-- `RL C` (R277). -/
def execRl_C (s : State) : Result := rotOperand .rl (.reg .c) s

/-- `RL D` (R277). -/
def execRl_D (s : State) : Result := rotOperand .rl (.reg .d) s

/-- `RL E` (R277). -/
def execRl_E (s : State) : Result := rotOperand .rl (.reg .e) s

/-- `RL H` (R277). -/
def execRl_H (s : State) : Result := rotOperand .rl (.reg .h) s

/-- `RL L` (R277). -/
def execRl_L (s : State) : Result := rotOperand .rl (.reg .l) s

/-- `RL (HL)` (R277). -/
def execRl_mHL (s : State) : Result := rotOperand .rl .mHL s

/-- `RL A` (R277). -/
def execRl_A (s : State) : Result := rotOperand .rl (.reg .a) s

/-- `RR B` (R278). -/
def execRr_B (s : State) : Result := rotOperand .rr (.reg .b) s

/-- `RR C` (R278). -/
def execRr_C (s : State) : Result := rotOperand .rr (.reg .c) s

/-- `RR D` (R278). -/
def execRr_D (s : State) : Result := rotOperand .rr (.reg .d) s

/-- `RR E` (R278). -/
def execRr_E (s : State) : Result := rotOperand .rr (.reg .e) s

/-- `RR H` (R278). -/
def execRr_H (s : State) : Result := rotOperand .rr (.reg .h) s

/-- `RR L` (R278). -/
def execRr_L (s : State) : Result := rotOperand .rr (.reg .l) s

/-- `RR (HL)` (R278). -/
def execRr_mHL (s : State) : Result := rotOperand .rr .mHL s

/-- `RR A` (R278). -/
def execRr_A (s : State) : Result := rotOperand .rr (.reg .a) s

/-- `SLA B` (R279). -/
def execSla_B (s : State) : Result := rotOperand .sla (.reg .b) s

/-- `SLA C` (R279). -/
def execSla_C (s : State) : Result := rotOperand .sla (.reg .c) s

/-- `SLA D` (R279). -/
def execSla_D (s : State) : Result := rotOperand .sla (.reg .d) s

/-- `SLA E` (R279). -/
def execSla_E (s : State) : Result := rotOperand .sla (.reg .e) s

/-- `SLA H` (R279). -/
def execSla_H (s : State) : Result := rotOperand .sla (.reg .h) s

/-- `SLA L` (R279). -/
def execSla_L (s : State) : Result := rotOperand .sla (.reg .l) s

/-- `SLA (HL)` (R279). -/
def execSla_mHL (s : State) : Result := rotOperand .sla .mHL s

/-- `SLA A` (R279). -/
def execSla_A (s : State) : Result := rotOperand .sla (.reg .a) s

/-- `SRA B` (R280). -/
def execSra_B (s : State) : Result := rotOperand .sra (.reg .b) s

/-- `SRA C` (R280). -/
def execSra_C (s : State) : Result := rotOperand .sra (.reg .c) s

/-- `SRA D` (R280). -/
def execSra_D (s : State) : Result := rotOperand .sra (.reg .d) s

/-- `SRA E` (R280). -/
def execSra_E (s : State) : Result := rotOperand .sra (.reg .e) s

/-- `SRA H` (R280). -/
def execSra_H (s : State) : Result := rotOperand .sra (.reg .h) s

/-- `SRA L` (R280). -/
def execSra_L (s : State) : Result := rotOperand .sra (.reg .l) s

/-- `SRA (HL)` (R280). -/
def execSra_mHL (s : State) : Result := rotOperand .sra .mHL s

/-- `SRA A` (R280). -/
def execSra_A (s : State) : Result := rotOperand .sra (.reg .a) s

/-- `SWAP B` (R281). -/
def execSwap_B (s : State) : Result := rotOperand .swap (.reg .b) s

/-- `SWAP C` (R281). -/
def execSwap_C (s : State) : Result := rotOperand .swap (.reg .c) s

/-- `SWAP D` (R281). -/
def execSwap_D (s : State) : Result := rotOperand .swap (.reg .d) s

/-- `SWAP E` (R281). -/
def execSwap_E (s : State) : Result := rotOperand .swap (.reg .e) s

/-- `SWAP H` (R281). -/
def execSwap_H (s : State) : Result := rotOperand .swap (.reg .h) s

/-- `SWAP L` (R281). -/
def execSwap_L (s : State) : Result := rotOperand .swap (.reg .l) s

/-- `SWAP (HL)` (R281). -/
def execSwap_mHL (s : State) : Result := rotOperand .swap .mHL s

/-- `SWAP A` (R281). -/
def execSwap_A (s : State) : Result := rotOperand .swap (.reg .a) s

/-- `SRL B` (R282). -/
def execSrl_B (s : State) : Result := rotOperand .srl (.reg .b) s

/-- `SRL C` (R282). -/
def execSrl_C (s : State) : Result := rotOperand .srl (.reg .c) s

/-- `SRL D` (R282). -/
def execSrl_D (s : State) : Result := rotOperand .srl (.reg .d) s

/-- `SRL E` (R282). -/
def execSrl_E (s : State) : Result := rotOperand .srl (.reg .e) s

/-- `SRL H` (R282). -/
def execSrl_H (s : State) : Result := rotOperand .srl (.reg .h) s

/-- `SRL L` (R282). -/
def execSrl_L (s : State) : Result := rotOperand .srl (.reg .l) s

/-- `SRL (HL)` (R282). -/
def execSrl_mHL (s : State) : Result := rotOperand .srl .mHL s

/-- `SRL A` (R282). -/
def execSrl_A (s : State) : Result := rotOperand .srl (.reg .a) s

end Sys2Proof.Machine
end

