-- ==== Sys2Proof/Machine/Stack.lean ====
section
/-!
DEFINITION. The meanings of PUSH and POP (spec 47 R342 to R344).
-/
namespace Sys2Proof.Machine

/-! ### Shared forms -/

/-- `PUSH qq` (R342). -/
def pushPair (q : StackPair) (s : State) : Result := orFault (push16 (s.getStackPair q) (s.retire 1 16))

/-- `POP qq`; for AF the flags come from the popped byte (R343, R344). -/
def popPair (q : StackPair) (s : State) : Result :=
  match pop16 (s.retire 1 12) with
  | .ok (v, s1) => .next (s1.setStackPair q v)
  | .error f => .fault f

/-! ### The instructions -/

/-- `POP BC` (R343). -/
def execPop_BC (s : State) : Result := popPair .bc s

/-- `PUSH BC` (R342). -/
def execPush_BC (s : State) : Result := pushPair .bc s

/-- `POP DE` (R343). -/
def execPop_DE (s : State) : Result := popPair .de s

/-- `PUSH DE` (R342). -/
def execPush_DE (s : State) : Result := pushPair .de s

/-- `POP HL` (R343). -/
def execPop_HL (s : State) : Result := popPair .hl s

/-- `PUSH HL` (R342). -/
def execPush_HL (s : State) : Result := pushPair .hl s

/-- `POP AF` (R344). -/
def execPop_AF (s : State) : Result := popPair .af s

/-- `PUSH AF` (R342). -/
def execPush_AF (s : State) : Result := pushPair .af s

end Sys2Proof.Machine
end

