-- ==== Sys2Proof/Machine/Step.lean ====
section
/-!
DEFINITION. The step function (spec 60 R402): one interrupt dispatch, one halted idle period, or one instruction; and
where the outcomes `fault` and `stuck` stand (00 R9). `State.withFetchWord` places an instruction of the opcode table
where the next step fetches.
-/
namespace Sys2Proof.Machine

/-- One step (60 R402). -/
def step (s : State) : Host.Outcome State Fault Refusal :=
  match s.fault with
  | some r => .fault (.raised r)
  | none =>
    if s.stopped then .fault .stuck
    else
      let s1 := wakeIfPending s
      if s1.ime && decide (pending s1 ≠ 0#5) then dispatchInterrupt s1
      else if s1.halted then .next (idleStep s1)
      else
        match exec (fetchInstr s1) s1 with
        | .next s2 => .next (finishStep (fetchInstr s1) s2)
        | .fault r => .fault r
        | .refused r => .refused r

/-- The machine with an instruction of the opcode table (`nbits` bits `w`, numbered as the table numbers them, every
later byte 0) placed at pc, ready to fetch it (log entry 7). -/
def State.withFetchWord (s : State) (nbits w : Nat) : State :=
  readyToFetch (placeBytes s s.pc (tableBytes nbits w))

end Sys2Proof.Machine
end

