-- ==== Sys2Proof/Machine/Cartridge.lean ====
section
/-!
DEFINITION. The cartridge load and the reset event (spec 20 section 3, 70 R470): the header fields of R101 to R105, the
choice of the controller (R103, R108), the bank counts (R104, R106), and the machine a load or a system reset leaves.
-/
namespace Sys2Proof.Machine

/-! ### The header -/

/-- `ROM[j]`: the byte of the image at offset `j`, the last one it lists, 0x00 where it lists none. -/
def imageByte (cells : List Host.Cell) (j : Nat) : Byte :=
  match cells with
  | [] => 0x00#8
  | (k, v) :: rest => if rest.all (fun c => c.1 ≠ j) && decide (k = j) then v else imageByte rest j

/-- The bytes `ROM[from], ROM[from + 1], …`, `count` of them. -/
def imageBytes (cells : List Host.Cell) (start count : Nat) : List Byte :=
  (List.range count).map (fun i => imageByte cells (start + i))

/-- The CGB flag byte indicates CGB-only or compatible: bit 7 of ROM[0x143] (20 R101, R102). -/
def cgbIndicated (cells : List Host.Cell) : Bool := (imageByte cells 0x143).getLsbD 7

/-- The title: 0x134 to 0x142, or to 0x13E with the CGB flag, up to the first zero byte (20 R101). -/
def headerTitle (cells : List Host.Cell) : List Byte :=
  (imageBytes cells 0x134 (if cgbIndicated cells then 11 else 15)).takeWhile (fun b => b ≠ 0x00#8)

/-- The licensee code: two letters when the legacy byte is 0x33, else the legacy byte (20 R102). -/
def headerLicensee (cells : List Host.Cell) : List Byte :=
  if imageByte cells 0x14B = 0x33#8 then [imageByte cells 0x144, imageByte cells 0x145] else [imageByte cells 0x14B]

/-- The running sum of 0x134 to 0x14C (20 R105). -/
def headerSum (cells : List Host.Cell) : Byte := (imageBytes cells 0x134 25).foldl (fun x b => x - b - 1#8) 0#8

/-- `checksum_valid` (20 R105). -/
def headerChecksumValid (cells : List Host.Cell) : Bool := headerSum cells = imageByte cells 0x14D

/-- A row of the cartridge type table (20 R103). -/
structure CartType where
  kind       : MbcKind
  hasRam     : Bool
  hasBattery : Bool
  hasTimer   : Bool
  hasRumble  : Bool
deriving DecidableEq, Repr

/-- The cartridge type table; a miss is an unsupported cartridge (20 R103). -/
def cartTypeOf (t : Byte) : Option CartType :=
  match t.toNat with
  | 0x00 => some ⟨.romOnly, false, false, false, false⟩
  | 0x01 => some ⟨.mbc1, false, false, false, false⟩
  | 0x02 => some ⟨.mbc1, true, false, false, false⟩
  | 0x03 => some ⟨.mbc1, true, true, false, false⟩
  | 0x0F => some ⟨.mbc3, false, true, true, false⟩
  | 0x10 => some ⟨.mbc3, true, true, true, false⟩
  | 0x11 => some ⟨.mbc3, false, false, false, false⟩
  | 0x12 => some ⟨.mbc3, true, false, false, false⟩
  | 0x13 => some ⟨.mbc3, true, true, false, false⟩
  | 0x19 => some ⟨.mbc5, false, false, false, false⟩
  | 0x1A => some ⟨.mbc5, true, false, false, false⟩
  | 0x1B => some ⟨.mbc5, true, true, false, false⟩
  | 0x1C => some ⟨.mbc5, false, false, false, true⟩
  | 0x1D => some ⟨.mbc5, true, false, false, true⟩
  | 0x1E => some ⟨.mbc5, true, true, false, true⟩
  | _ => none

/-- The RAM bank count of a RAM size code; 6 and more are a lookup miss (20 R104). -/
def ramBanksOf (code : Byte) : Option Nat :=
  match code.toNat with
  | 0 => some 0
  | 1 => some 0
  | 2 => some 1
  | 3 => some 4
  | 4 => some 16
  | 5 => some 8
  | _ => none

/-- Mbc3 becomes Mbc30 with more than 128 ROM banks or more than 4 RAM banks (20 R108). -/
def mbcKindOf (kind : MbcKind) (romBanks ramBanks : Nat) : MbcKind :=
  match kind with
  | .mbc3 => if romBanks > 128 ∨ ramBanks > 4 then .mbc30 else .mbc3
  | .romOnly => .romOnly
  | .mbc1 => .mbc1
  | .mbc30 => .mbc30
  | .mbc5 => .mbc5

/-- What the load derives from an image (20 R101 to R106), for a type row and a RAM bank count. -/
def deriveCartridge (rom : Image) (t : CartType) (ramBanks : Nat) : Cartridge :=
  { romLen := rom.size, ramBankCount := ramBanks
    hasRam := t.hasRam, hasBattery := t.hasBattery, hasTimer := t.hasTimer, hasRumble := t.hasRumble
    checksumValid := headerChecksumValid rom.cells, title := headerTitle rom.cells
    cgbFlag := imageByte rom.cells 0x143, licensee := headerLicensee rom.cells }

/-! ### The load and the reset -/

/-- Store the listed bytes whose offset is below `size` at `base + offset`. -/
def placeCells (base size : Nat) (m : Memory) : List Host.Cell → Memory
  | [] => m
  | (k, v) :: rest => placeCells base size (if k < size then m.write (base + k) v else m) rest

/-- `Load(ROM, params)` (20 R100, 60 R460): the machine after power-on with that cartridge, or the refusal of 60
R406. -/
def load (p : Params) : Host.Outcome State Fault Refusal :=
  if p.rom.size < minRomSize then .refused (.refusedLoad (.unsupportedCartridge none))
  else
    match cartTypeOf (imageByte p.rom.cells 0x147) with
    | none => .refused (.refusedLoad (.unsupportedCartridge (some (imageByte p.rom.cells 0x147))))
    | some t =>
      match ramBanksOf (imageByte p.rom.cells 0x149) with
      | none => .refused (.refusedLoad (.unsupportedCartridge (some (imageByte p.rom.cells 0x149))))
      | some ramBanks =>
        let cart := deriveCartridge p.rom t ramBanks
        .next { State.reset with
          mbc := Mbc.powerOn p.rtcInit t.hasTimer (mbcKindOf t.kind (romBankCount cart) ramBanks)
          cart := cart
          cgbMode := p.cgbMode.getD (cgbIndicated p.rom.cells)
          eiDelay := p.eiDelay
          mem := placeCells romBase p.rom.size
            (placeCells cartRamBase (ramBanks * ramBankSize) [] p.cartRamInit) p.rom.cells }

/-- The system reset (70 R470, 10 R48): everything as at power-on, but the cartridge, the parameters, cartridge RAM and
the live clock stay. -/
def systemReset (s : State) : State :=
  { State.reset with
    mbc := Mbc.systemReset s.mbc, cart := s.cart, cgbMode := s.cgbMode, eiDelay := s.eiDelay
    mem := s.mem.keepCartridge }

end Sys2Proof.Machine
end

