-- ==== Sys2Proof/Machine/HostMoves.lean ====
section
/-!
DEFINITION. The moves the host may make between steps (spec 60 R460); Load and Reset are in Machine/Cartridge.lean. No
step makes one (log entry 10). These are the moves of R460's table and no others: R450 says that the host can write
`halted`, `fault` and the controller's latches too, the table has no move for it, and leaving it so is this model's
choice (DESIGN CHOICE, log entry 21).
-/
namespace Sys2Proof.Machine

/-- The registers the host names: the seven general ones and F (10 R22). -/
inductive HostReg where
  | gp (r : Reg8)
  | f
deriving DecidableEq, Repr

/-- `GetReg(R)` (60 R460). -/
def hostGetReg (s : State) : HostReg → Byte
  | .gp r => s.getReg r
  | .f => s.flags.toByte

/-- `SetReg(R, v)`: `v mod 2^8`; for F bits 3 to 0 are discarded (60 R460, 10 R22, R24). -/
def hostSetReg (s : State) (r : HostReg) (v : Nat) : State :=
  match r with
  | .gp r => s.setReg r (BitVec.ofNat 8 v)
  | .f => s.setFlags (Flags.ofByte (BitVec.ofNat 8 v))

/-- `GetPair(P)` (60 R460). -/
def hostGetPair (s : State) (q : StackPair) : Word := s.getStackPair q

/-- `SetPair(P, v)`: `v mod 2^16`, split into high and low bytes (60 R460, 10 R22, R24). -/
def hostSetPair (s : State) (q : StackPair) (v : Nat) : State := s.setStackPair q (BitVec.ofNat 16 v)

/-- `SetPC(v)` (60 R460); `GetPC` is `State.pc`. -/
def hostSetPc (s : State) (v : Nat) : State := { s with pc := BitVec.ofNat 16 v }

/-- `SetSP(v)` (60 R460); `GetSP` is `State.sp`. -/
def hostSetSp (s : State) (v : Nat) : State := { s with sp := BitVec.ofNat 16 v }

/-- `SetIME(b)` (60 R460); `GetIME` is `State.ime`. -/
def hostSetIme (s : State) (b : Bool) : State := { s with ime := b }

/-- `SetCycles(n)` (60 R460); `GetCycles` is `State.cycles`, `GetFault` is `State.fault`. -/
def hostSetCycles (s : State) (n : Nat) : State := { s with cycles := n }

/-- The machine faulted with a record: the one thing a fault writes (60 R401). -/
def State.record (s : State) (r : FaultRecord) : State := { s with fault := some r }

/-- The address of a host access, where it is one (20 R73). -/
def hostAddress (addr : Int) : Option Word := if 0 ≤ addr ∧ addr ≤ 0xFFFF then some (BitVec.ofInt 16 addr) else none

/-- `BusRead(addr)`: the byte, or AddressFault and a faulted machine (60 R405, R460). -/
def busRead (s : State) (addr : Int) : Except FaultRecord Byte × State :=
  match hostAddress addr with
  | some a => (.ok (memRead s a), s)
  | none => (.error (.addressFault addr), s.record (.addressFault addr))

/-- `BusWrite(addr, v)`: the write, or AddressFault and a faulted machine (60 R405, R460). -/
def busWrite (s : State) (addr : Int) (v : Nat) : Except FaultRecord Unit × State :=
  match hostAddress addr with
  | some a => (.ok (), memWrite s a (BitVec.ofNat 8 v))
  | none => (.error (.addressFault addr), s.record (.addressFault addr))

/-- The bytes raw access names: a storage cell (its bytes are in `mem`), IF, VBK, SVBK, IE, a clock register (60
R460). -/
inductive RawPlace where
  | cell (l : Loc)
  | ifReg
  | vbk
  | svbk
  | ieReg
  | rtc (r : ClockReg)
  | rtcLatched (r : ClockReg)
deriving DecidableEq, Repr

/-- The storage cells raw access reaches (60 R460): the bytes the buffers of 10 R35 have, the plain latches of NAMED (10
R36), and the cartridge RAM banks that exist (20 R107). The ROM image is immutable (10 R41) and is not among them. -/
def Loc.isRaw (cart : Cartridge) : Loc → Bool
  | .vram _ _ | .wram _ _ => true
  | .oam off => decide (off.toNat < 160)
  | .hram off => decide (off.toNat < 127)
  | .io off => ioPlain off.toNat
  | .cartRam bank _ => decide (bank.toNat < cart.ramBankCount)
  | .rom _ => false

/-- A raw read, without address decoding or side effects; none where the machine has no such byte (60 R460). -/
def rawRead (s : State) : RawPlace → Option Byte
  | .cell l => if l.isRaw s.cart then some (cellByte s l) else none
  | .ifReg => some (s.ifReg.setWidth 8)
  | .vbk => some (s.vbk.setWidth 8)
  | .svbk => some (s.svbk.setWidth 8)
  | .ieReg => some s.ieReg
  | .rtc r => s.mbc.clocks.map (fun k => k.rtc.readReg r)
  | .rtcLatched r => s.mbc.clocks.map (fun k => k.rtcLatched.readReg r)

/-- A latched clock register written raw. -/
def mbcWriteLatched (m : Mbc) (r : ClockReg) (b : Byte) : Mbc :=
  m.mapClocks fun k => { k with rtcLatched := k.rtcLatched.writeReg r b }

/-- A raw write (60 R460): the stored bits of the place, nothing else; nothing at all where the machine has no such
byte (log entry 18). SVBK never holds 0 (10 R39). That no raw write reaches `halted`, `fault` or a controller's latch is
the model's choice (DESIGN CHOICE, log entry 21). -/
def rawWrite (s : State) (place : RawPlace) (v : Byte) : State :=
  match place with
  | .cell l => if l.isRaw s.cart then s.poke l v else s
  | .ifReg => { s with ifReg := v.setWidth 5 }
  | .vbk => { s with vbk := v.setWidth 1 }
  | .svbk => { s with svbk := svbkOf v }
  | .ieReg => { s with ieReg := v }
  | .rtc r => { s with mbc := mbcWriteClock s.mbc r v }
  | .rtcLatched r => { s with mbc := mbcWriteLatched s.mbc r v }

/-- `RaiseInterrupt(i)`, i in 0 to 4 (60 R460). -/
def raiseInterrupt (s : State) (i : Fin 5) : State := { s with ifReg := s.ifReg ||| (1#5 <<< i.val) }

/-- `RtcTick` (60 R460, 20 R148). -/
def rtcTick (s : State) : State := { s with mbc := Mbc.rtcTick s.cart s.mbc }

/-- `Wake` (60 R460). -/
def wake (s : State) : State := { s with stopped := false }

/-- The outcomes of `Step` as the host sees them (00 R9). -/
inductive StepReport where
  | next
  | fault (r : FaultRecord)
  | stuck
  | refused (r : Refusal)
deriving DecidableEq, Repr

/-- `Step` (60 R460): the outcome and the machine after it; a fault leaves everything but the fault record (60 R401,
log entry 1). -/
def hostStep (s : State) : StepReport × State :=
  match step s with
  | .next t => (.next, t)
  | .fault (.raised r) => (.fault r, s.record r)
  | .fault .stuck => (.stuck, s)
  | .refused r => (.refused r, s)

/-- The activity states of 60 R466. -/
inductive Activity where
  | running | halted | stopped | faulted
deriving DecidableEq, Repr

/-- Which activity state the core is in (60 R466). -/
def activity (s : State) : Activity :=
  if s.fault ≠ none then .faulted
  else if s.stopped then .stopped
  else if s.halted then .halted
  else .running

end Sys2Proof.Machine
end

