-- ==== Sys2Proof/Safety.lean ====
section
/-!
DEFINITION. What counts as a legal state and a safe step, and the vocabulary of the statements: field values, the bytes
that decode to a row, the writes an instruction makes, the flag table of 10 R25, the addresses of NAMED.
-/
namespace Sys2Proof

/-! ### The field values of 30 R163 to R165 -/

/-- The 3-bit register field (30 R163). -/
def Reg8.code : Reg8 → Nat
  | .b => 0 | .c => 1 | .d => 2 | .e => 3 | .h => 4 | .l => 5 | .a => 7

/-- The 3-bit register field with 6 for (HL) (30 R163). -/
def Operand.code : Operand → Nat
  | .reg r => r.code
  | .mHL => 6

/-- The field `pp` (30 R164). -/
def Pair.code : Pair → Nat
  | .bc => 0 | .de => 1 | .hl => 2 | .sp => 3

/-- The field `qq` (30 R164). -/
def StackPair.code : StackPair → Nat
  | .bc => 0 | .de => 1 | .hl => 2 | .af => 3

/-- The condition field `cc` (30 R165). -/
def Cond.code : Cond → Nat
  | .nz => 0 | .z => 1 | .nc => 2 | .c => 3

/-- The operation field `ooo` (30 R165). -/
def AluOp.code : AluOp → Nat
  | .add => 0 | .adc => 1 | .sub => 2 | .sbc => 3 | .and => 4 | .xor => 5 | .or => 6 | .cp => 7

/-- The rotate operation field (30 R165). -/
def RotOp.code : RotOp → Nat
  | .rlc => 0 | .rrc => 1 | .rl => 2 | .rr => 3 | .sla => 4 | .sra => 5 | .swap => 6 | .srl => 7

/-- The bytes `bytes`, whatever follows them, are the row `i` and no more: its encoding and its length (30 R160,
R172). -/
def decodesTo (i : Instr) (bytes : List Byte) : Prop := ∀ rest, decode (bytes ++ rest) = .ok (i, rest)

/-- The eleven first bytes that are not instructions (30 R169). -/
def illegalBytes : List Byte :=
  [0xD3#8, 0xDB#8, 0xDD#8, 0xE3#8, 0xE4#8, 0xEB#8, 0xEC#8, 0xED#8, 0xF4#8, 0xFC#8, 0xFD#8]

/-- The offsets of NAMED, the I/O registers that exist (10 R36): 70 of them. -/
def namedIo : List Nat :=
  [0x00, 0x01, 0x02, 0x04, 0x05, 0x06, 0x07, 0x0F, 0x10, 0x11, 0x12, 0x13, 0x14, 0x16, 0x17, 0x18, 0x19, 0x1A, 0x1B,
    0x1C, 0x1D, 0x1E] ++
  [0x20, 0x21, 0x22, 0x23, 0x24, 0x25, 0x26, 0x30, 0x31, 0x32, 0x33, 0x34, 0x35, 0x36, 0x37, 0x38, 0x39, 0x3A, 0x3B,
    0x3C, 0x3D, 0x3E, 0x3F] ++
  [0x40, 0x41, 0x42, 0x43, 0x44, 0x45, 0x46, 0x47, 0x48, 0x49, 0x4A, 0x4B, 0x4D, 0x4F, 0x51, 0x52, 0x53, 0x54, 0x55,
    0x56, 0x68, 0x69, 0x6A, 0x6B, 0x70]

end Sys2Proof

namespace Sys2Proof.Machine

/-! ### Legal states and safe steps -/

/-- The latches of a controller hold legal values: Mbc1 `bank1` and Mbc3 `rom_bank` are never 0 and Mbc3 uses 7 bits of
it (spec 10 R43, R44); the clock registers exist exactly with has-timer (10 R44); an Mbc5 RAM bank has 3 bits with
has-rumble, and the rumble bit exists only with it (10 R45). -/
def Mbc.legal (cart : Cartridge) : Mbc → Bool
  | .romOnly => true
  | .mbc1 l  => decide (l.bank1 ≠ 0#5)
  | .mbc3 l  => decide (l.romBank ≠ 0#8) && decide (l.romBank.toNat < 0x80) && l.clocks.isSome == cart.hasTimer
  | .mbc30 l => decide (l.romBank ≠ 0#8) && l.clocks.isSome == cart.hasTimer
  | .mbc5 l  => if cart.hasRumble then decide (l.ramBank.toNat < 8) else !l.rumble

/-- The legal states: memory in canonical form, SVBK never 0 (10 R39), the latches legal (10 R43 to R45), and
`ei_pending` 0 where EI is not delayed (10 R29). -/
def State.legal (s : State) : Bool :=
  s.mem.wf && decide (s.svbk ≠ 0#3) && Mbc.legal s.cart s.mbc && (s.eiDelay || !s.eiPending)

/-- The step answers a next state: neither a fault nor `stuck` nor a refusal. -/
def safeStep (s : State) : Bool :=
  match step s with
  | .next _ => true
  | .fault _ => false
  | .refused _ => false

/-- Interrupt source `i` is requested and enabled (60 R410). -/
def State.pendingSource (s : State) (i : Nat) : Bool := s.ifReg.getLsbD i && s.ieReg.getLsbD i

/-- Some source of the five is pending (60 R410). -/
def State.somePending (s : State) : Bool := (List.range 5).any (fun i => s.pendingSource i)

/-- Nothing keeps the next step from fetching an instruction: not faulted, not stopped, awake or about to wake, and no
interrupt about to be taken (60 R402). -/
def State.willFetch (s : State) : Bool :=
  decide (s.fault = none) && !s.stopped && (!s.halted || s.somePending) && !(s.ime && s.somePending)

/-! ### What an instruction writes -/

/-- The state after `push16 v` where it does not fault: sp two lower, the high byte written first (47 R340). -/
def State.pushed (s : State) (v : Word) : State :=
  memWrite { memWrite { s with sp := s.sp - 1#16 } (s.sp - 1#16) (hi8 v) with sp := s.sp - 2#16 } (s.sp - 2#16) (lo8 v)

/-- The two writes of a push (47 R340). -/
def pushWrites (s : State) (v : Word) : List (Word × Byte) := [(s.sp - 1#16, hi8 v), (s.sp - 2#16, lo8 v)]

/-- The bus writes an instruction makes from `s`, in order, with the address and the byte its meaning computes; none
for every other instruction. -/
def instrWrites (i : Instr) (s : State) : List (Word × Byte) :=
  match i with
  | .ld_mBC_A => [(s.bc, s.a)]
  | .ld_mnn_SP nn => [(nn, lo8 s.sp), (nn + 1#16, hi8 s.sp)]
  | .ld_mDE_A => [(s.de, s.a)]
  | .ld_mHLinc_A => [(s.hl, s.a)]
  | .ld_mHLdec_A => [(s.hl, s.a)]
  | .inc_mHL => [(s.hl, (incResult (memRead s s.hl) s.flags).1)]
  | .dec_mHL => [(s.hl, (decResult (memRead s s.hl) s.flags).1)]
  | .ld_mHL_n n => [(s.hl, n)]
  | .ld_mHL_B => [(s.hl, s.b)]
  | .ld_mHL_C => [(s.hl, s.c)]
  | .ld_mHL_D => [(s.hl, s.d)]
  | .ld_mHL_E => [(s.hl, s.e)]
  | .ld_mHL_H => [(s.hl, s.h)]
  | .ld_mHL_L => [(s.hl, s.l)]
  | .ld_mHL_A => [(s.hl, s.a)]
  | .call_NZ_nn _ => if s.cond .nz then pushWrites s (s.pc + 3#16) else []
  | .push_BC => pushWrites s s.bc
  | .rst_00H => pushWrites s (s.pc + 1#16)
  | .call_Z_nn _ => if s.cond .z then pushWrites s (s.pc + 3#16) else []
  | .call_nn _ => pushWrites s (s.pc + 3#16)
  | .rst_08H => pushWrites s (s.pc + 1#16)
  | .call_NC_nn _ => if s.cond .nc then pushWrites s (s.pc + 3#16) else []
  | .push_DE => pushWrites s s.de
  | .rst_10H => pushWrites s (s.pc + 1#16)
  | .call_C_nn _ => if s.cond .c then pushWrites s (s.pc + 3#16) else []
  | .rst_18H => pushWrites s (s.pc + 1#16)
  | .ldh_mn_A n => [(ioAddress n, s.a)]
  | .ldh_mC_A => [(ioAddress s.c, s.a)]
  | .push_HL => pushWrites s s.hl
  | .rst_20H => pushWrites s (s.pc + 1#16)
  | .ld_mnn_A nn => [(nn, s.a)]
  | .rst_28H => pushWrites s (s.pc + 1#16)
  | .push_AF => pushWrites s s.af
  | .rst_30H => pushWrites s (s.pc + 1#16)
  | .rst_38H => pushWrites s (s.pc + 1#16)
  | .rlc_mHL => [(s.hl, (rotResult .rlc (memRead s s.hl) s.flags.c).1)]
  | .rrc_mHL => [(s.hl, (rotResult .rrc (memRead s s.hl) s.flags.c).1)]
  | .rl_mHL => [(s.hl, (rotResult .rl (memRead s s.hl) s.flags.c).1)]
  | .rr_mHL => [(s.hl, (rotResult .rr (memRead s s.hl) s.flags.c).1)]
  | .sla_mHL => [(s.hl, (rotResult .sla (memRead s s.hl) s.flags.c).1)]
  | .sra_mHL => [(s.hl, (rotResult .sra (memRead s s.hl) s.flags.c).1)]
  | .swap_mHL => [(s.hl, (rotResult .swap (memRead s s.hl) s.flags.c).1)]
  | .srl_mHL => [(s.hl, (rotResult .srl (memRead s s.hl) s.flags.c).1)]
  | .res_0_mHL => [(s.hl, resResult 0 (memRead s s.hl))]
  | .res_1_mHL => [(s.hl, resResult 1 (memRead s s.hl))]
  | .res_2_mHL => [(s.hl, resResult 2 (memRead s s.hl))]
  | .res_3_mHL => [(s.hl, resResult 3 (memRead s s.hl))]
  | .res_4_mHL => [(s.hl, resResult 4 (memRead s s.hl))]
  | .res_5_mHL => [(s.hl, resResult 5 (memRead s s.hl))]
  | .res_6_mHL => [(s.hl, resResult 6 (memRead s s.hl))]
  | .res_7_mHL => [(s.hl, resResult 7 (memRead s s.hl))]
  | .set_0_mHL => [(s.hl, setResult 0 (memRead s s.hl))]
  | .set_1_mHL => [(s.hl, setResult 1 (memRead s s.hl))]
  | .set_2_mHL => [(s.hl, setResult 2 (memRead s s.hl))]
  | .set_3_mHL => [(s.hl, setResult 3 (memRead s s.hl))]
  | .set_4_mHL => [(s.hl, setResult 4 (memRead s s.hl))]
  | .set_5_mHL => [(s.hl, setResult 5 (memRead s s.hl))]
  | .set_6_mHL => [(s.hl, setResult 6 (memRead s s.hl))]
  | .set_7_mHL => [(s.hl, setResult 7 (memRead s s.hl))]
  | _ => []

/-- The writes made one after the other. -/
def applyWrites (s : State) : List (Word × Byte) → State
  | [] => s
  | (a, b) :: rest => applyWrites (memWrite s a b) rest

/-- The storage cells the writes store to, each looked up in the state its write meets. -/
def writtenCells (s : State) : List (Word × Byte) → List Loc
  | [] => []
  | (a, b) :: rest => (storeCell s a).toList ++ writtenCells (memWrite s a b) rest

/-! ### Forms and functions of the instruction rules -/

/-- The three forms of a two-operand operation: the row, its second operand, length and cost (42 R230). -/
def aluForm (op : AluOp) (s : State) (i : Instr) (v : Byte) (len : Word) (cost : Nat) : Prop :=
  (∃ r, i = ofAlu op (.reg r) ∧ v = s.getReg r ∧ len = 1#16 ∧ cost = 4) ∨
  (i = ofAlu op .mHL ∧ v = memRead s s.hl ∧ len = 1#16 ∧ cost = 8) ∨
  (i = ofAluImm op v ∧ len = 2#16 ∧ cost = 8)

/-- The rotates and shifts over the natural numbers: the result below 256 and the carry out, from the operand below 256
and the carry in (44 R275 to R282). -/
def rotArith (op : RotOp) (a c : Nat) : Nat × Nat :=
  match op with
  | .rlc => ((2 * a) % 256 + a / 128, a / 128)
  | .rrc => (a / 2 + 128 * (a % 2), a % 2)
  | .rl => ((2 * a) % 256 + c, a / 128)
  | .rr => (a / 2 + 128 * c, a % 2)
  | .sla => ((2 * a) % 256, a / 128)
  | .sra => (a / 2 + 128 * (a / 128), a % 2)
  | .swap => (16 * (a % 16) + a / 16, 0)
  | .srl => (a / 2, a % 2)

/-- The byte is two decimal digits. -/
def isBcd (v : Byte) : Bool := decide (v.toNat % 16 ≤ 9) && decide (v.toNat / 16 ≤ 9)

/-- The number two decimal digits stand for. -/
def bcdValue (v : Byte) : Nat := 10 * (v.toNat / 16) + v.toNat % 16

/-- The time on a clock in seconds, days counted from 0 (20 R148). -/
def Clock.seconds (k : Clock) : Nat :=
  (((bitNat k.dayHi * 256 + k.dayLo.toNat) * 24 + k.hour.toNat) * 60 + k.min.toNat) * 60 + k.sec.toNat

/-- The clock registers are in the range of normal running (10 R44). -/
def Clock.inRange (k : Clock) : Bool :=
  decide (k.sec.toNat < 60) && decide (k.min.toNat < 60) && decide (k.hour.toNat < 24)

/-- The latch `ram_enable`, where the kind has one (10 R42). -/
def Mbc.ramEnabled : Mbc → Option Bool
  | .romOnly => none
  | .mbc1 l => some l.ramEnable
  | .mbc3 l => some l.ramEnable
  | .mbc30 l => some l.ramEnable
  | .mbc5 l => some l.ramEnable

/-! ### The flag table (10 R25) -/

/-- The effect of an instruction on one flag: `*`, `0`, `1` and `-` of the table. -/
inductive FlagEffect where
  | result | zero | one | keep
deriving DecidableEq, Repr

/-- A row of the table: the effects on Z, N, H, C. -/
structure FlagRow where
  z : FlagEffect
  n : FlagEffect
  h : FlagEffect
  c : FlagEffect
deriving DecidableEq, Repr

/-- The flag went from `old` to `new` as the table's entry allows. -/
def FlagEffect.allows (e : FlagEffect) (old new : Bool) : Bool :=
  match e with
  | .result => true
  | .zero => !new
  | .one => new
  | .keep => new == old

/-- The row of an instruction; every instruction the table does not name keeps all four flags. -/
def instrFlagRow (i : Instr) : FlagRow :=
  match i with
  | .inc_B | .inc_C | .inc_D | .inc_E | .inc_H | .inc_L | .inc_mHL | .inc_A => ⟨.result, .zero, .result, .keep⟩
  | .dec_B | .dec_C | .dec_D | .dec_E | .dec_H | .dec_L | .dec_mHL | .dec_A => ⟨.result, .one, .result, .keep⟩
  | .rlca | .rrca | .rla | .rra => ⟨.zero, .zero, .zero, .result⟩
  | .add_HL_BC | .add_HL_DE | .add_HL_HL | .add_HL_SP => ⟨.keep, .zero, .result, .result⟩
  | .daa => ⟨.result, .keep, .zero, .result⟩
  | .cpl => ⟨.keep, .one, .one, .keep⟩
  | .scf => ⟨.keep, .zero, .zero, .one⟩
  | .ccf => ⟨.keep, .zero, .zero, .result⟩
  | .add_A_B | .add_A_C | .add_A_D | .add_A_E | .add_A_H | .add_A_L | .add_A_mHL | .add_A_A | .adc_A_B | .adc_A_C
  | .adc_A_D | .adc_A_E | .adc_A_H | .adc_A_L | .adc_A_mHL | .adc_A_A | .add_A_n _ | .adc_A_n _ => ⟨.result, .zero, .result, .result⟩
  | .sub_B | .sub_C | .sub_D | .sub_E | .sub_H | .sub_L | .sub_mHL | .sub_A | .sbc_A_B | .sbc_A_C | .sbc_A_D
  | .sbc_A_E | .sbc_A_H | .sbc_A_L | .sbc_A_mHL | .sbc_A_A | .cp_B | .cp_C | .cp_D | .cp_E | .cp_H | .cp_L
  | .cp_mHL | .cp_A | .sub_n _ | .sbc_A_n _ | .cp_n _ => ⟨.result, .one, .result, .result⟩
  | .and_B | .and_C | .and_D | .and_E | .and_H | .and_L | .and_mHL | .and_A | .and_n _ => ⟨.result, .zero, .one, .zero⟩
  | .xor_B | .xor_C | .xor_D | .xor_E | .xor_H | .xor_L | .xor_mHL | .xor_A | .or_B | .or_C | .or_D | .or_E | .or_H
  | .or_L | .or_mHL | .or_A | .xor_n _ | .or_n _ | .swap_B | .swap_C | .swap_D | .swap_E | .swap_H | .swap_L
  | .swap_mHL | .swap_A => ⟨.result, .zero, .zero, .zero⟩
  | .add_SP_e _ | .ld_HL_SPe _ => ⟨.zero, .zero, .result, .result⟩
  | .pop_AF => ⟨.result, .result, .result, .result⟩
  | .rlc_B | .rlc_C | .rlc_D | .rlc_E | .rlc_H | .rlc_L | .rlc_mHL | .rlc_A | .rrc_B | .rrc_C | .rrc_D | .rrc_E
  | .rrc_H | .rrc_L | .rrc_mHL | .rrc_A | .rl_B | .rl_C | .rl_D | .rl_E | .rl_H | .rl_L | .rl_mHL | .rl_A | .rr_B
  | .rr_C | .rr_D | .rr_E | .rr_H | .rr_L | .rr_mHL | .rr_A | .sla_B | .sla_C | .sla_D | .sla_E | .sla_H | .sla_L
  | .sla_mHL | .sla_A | .sra_B | .sra_C | .sra_D | .sra_E | .sra_H | .sra_L | .sra_mHL | .sra_A | .srl_B | .srl_C
  | .srl_D | .srl_E | .srl_H | .srl_L | .srl_mHL | .srl_A => ⟨.result, .zero, .zero, .result⟩
  | .bit_0_B | .bit_0_C | .bit_0_D | .bit_0_E | .bit_0_H | .bit_0_L | .bit_0_mHL | .bit_0_A | .bit_1_B | .bit_1_C
  | .bit_1_D | .bit_1_E | .bit_1_H | .bit_1_L | .bit_1_mHL | .bit_1_A | .bit_2_B | .bit_2_C | .bit_2_D | .bit_2_E
  | .bit_2_H | .bit_2_L | .bit_2_mHL | .bit_2_A | .bit_3_B | .bit_3_C | .bit_3_D | .bit_3_E | .bit_3_H | .bit_3_L
  | .bit_3_mHL | .bit_3_A | .bit_4_B | .bit_4_C | .bit_4_D | .bit_4_E | .bit_4_H | .bit_4_L | .bit_4_mHL | .bit_4_A
  | .bit_5_B | .bit_5_C | .bit_5_D | .bit_5_E | .bit_5_H | .bit_5_L | .bit_5_mHL | .bit_5_A | .bit_6_B | .bit_6_C
  | .bit_6_D | .bit_6_E | .bit_6_H | .bit_6_L | .bit_6_mHL | .bit_6_A | .bit_7_B | .bit_7_C | .bit_7_D | .bit_7_E
  | .bit_7_H | .bit_7_L | .bit_7_mHL | .bit_7_A => ⟨.result, .zero, .one, .keep⟩
  | _ => ⟨.keep, .keep, .keep, .keep⟩

end Sys2Proof.Machine
end

