-- ==== Sys2Proof/Certificates/Slice0/Obligations.lean ====
section
/-!
DEFINITION. The statements for the provers, from the numbered rules of spec/ (OBLIGATIONS.json says which).
-/
open Sys2Proof Sys2Proof.Machine

/-- The bytes of the example encodings decode to the instructions the spec names (derived from R160, R162, R166, R167,
R168, R171, R172). The bytes C3 50 01 are JP 0150H; 41 is LD B,C; 3E 08 is LD A,08H; 20 FB is JR NZ with byte FB; 08
00 C0 is LD (C000H),SP; E0 70 is LDH (70H),A; F8 FF is LD HL,SP+e; 10 00 is STOP; CB 7F is BIT 7,A; CB 36 is SWAP
(HL); CB 9E is RES 3,(HL); EF is RST 28H. -/
def Obligations.DecodesSpecExamples : Prop :=
  decodesTo (.jp_nn 0x0150#16) [0xC3#8, 0x50#8, 0x01#8] ∧ decodesTo .ld_B_C [0x41#8] ∧
  decodesTo (.ld_A_n 0x08#8) [0x3E#8, 0x08#8] ∧ decodesTo (.jr_NZ_e 0xFB#8) [0x20#8, 0xFB#8] ∧
  decodesTo (.ld_mnn_SP 0xC000#16) [0x08#8, 0x00#8, 0xC0#8] ∧ decodesTo (.ldh_mn_A 0x70#8) [0xE0#8, 0x70#8] ∧
  decodesTo (.ld_HL_SPe 0xFF#8) [0xF8#8, 0xFF#8] ∧ decodesTo (.stop 0x00#8) [0x10#8, 0x00#8] ∧
  decodesTo .bit_7_A [0xCB#8, 0x7F#8] ∧ decodesTo .swap_mHL [0xCB#8, 0x36#8] ∧
  decodesTo .res_3_mHL [0xCB#8, 0x9E#8] ∧ decodesTo .rst_28H [0xEF#8]

/-- Decoding the encoding of any instruction gives it back, with every operand value, and leaves the bytes after it
(derived from R160, R166, R167, R168, R172). For every well-formed instruction, with every value of its immediate, and
for any bytes after it: decode of its encoding followed by those bytes is that instruction and those bytes. -/
def Obligations.DecodeOfEncode : Prop :=
  ∀ (i : Instr) (rest : List Byte), i.wellFormed = true → decode (encode i ++ rest) = .ok (i, rest)

/-- Every three bytes decode, no bit of what is read is dropped, and the first byte alone gives the length (derived from
R160, R170, R172). For all bytes b0, b1, b2 there is a length n from 1 to 3 such that the encoding of the row they
decode to is the first n of them, every row with first byte b0 has that length, and the bytes beyond n do not take
part: with n = 1 the row depends on b0 alone, with n at most 2 on b0 and b1 alone. -/
def Obligations.EncodeOfDecode : Prop :=
  ∀ b0 b1 b2 : Byte, ∃ n : Nat, 1 ≤ n ∧ n ≤ 3 ∧ encode (decodeBytes b0 b1 b2) = [b0, b1, b2].take n ∧
    (∀ c1 c2, (decodeBytes b0 c1 c2).length = n) ∧
    (n = 1 → ∀ c1 c2, decodeBytes b0 c1 c2 = decodeBytes b0 b1 b2) ∧
    (n ≤ 2 → ∀ c2, decodeBytes b0 b1 c2 = decodeBytes b0 b1 b2)

/-- Where the bytes an instruction encodes to stand at pc, the machine fetches that instruction (derived from R26, R60,
R93, R160, R172). If the bus reads the bytes of a well-formed instruction at pc and the addresses after it, modulo
2^16, then the instruction fetched is that one, whatever the bytes after it are. -/
def Obligations.FetchReadsEncoding : Prop :=
  ∀ (i : Instr) (s : State), i.wellFormed = true →
    (∀ (k : Nat) (h : k < (encode i).length), memRead s (s.pc + BitVec.ofNat 16 k) = (encode i)[k]) → fetchInstr s = i

/-- Exactly the eleven unassigned first bytes raise DecodeFault, with the byte and pc, and change nothing else (states
R356, R169, R404). A first byte among D3, DB, DD, E3, E4, EB, EC, ED, F4, FC, FD decodes to a row that is no
instruction and whose meaning, in every state, is the fault DecodeFault(byte, pc); a step that fetches it reports that
fault and leaves the machine as it was but for the fault record. Every other first byte, 0xCB with any second byte
included, decodes to an instruction, which raises no DecodeFault. -/
def Obligations.IllegalByteIsDecodeFault : Prop :=
  (∀ (b0 b1 b2 : Byte) (s : State), b0 ∈ illegalBytes → (decodeBytes b0 b1 b2).wellFormed = false ∧
    exec (decodeBytes b0 b1 b2) s = .fault (.raised (.decodeFault b0 s.pc))) ∧
  (∀ (b0 b1 b2 : Byte) (s : State), b0 ∉ illegalBytes → (decodeBytes b0 b1 b2).wellFormed = true ∧
    ∀ op pc, exec (decodeBytes b0 b1 b2) s ≠ .fault (.raised (.decodeFault op pc))) ∧
  (∀ s : State, s.willFetch = true → memRead s s.pc ∈ illegalBytes →
    hostStep s = (.fault (.decodeFault (memRead s s.pc) s.pc),
      { s with fault := some (.decodeFault (memRead s s.pc) s.pc) })) ∧
  (∀ s : State,
    exec .unassigned_D3 s = .fault (.raised (.decodeFault 0xD3#8 s.pc)) ∧
    exec .unassigned_DB s = .fault (.raised (.decodeFault 0xDB#8 s.pc)) ∧
    exec .unassigned_DD s = .fault (.raised (.decodeFault 0xDD#8 s.pc)) ∧
    exec .unassigned_E3 s = .fault (.raised (.decodeFault 0xE3#8 s.pc)) ∧
    exec .unassigned_E4 s = .fault (.raised (.decodeFault 0xE4#8 s.pc)) ∧
    exec .unassigned_EB s = .fault (.raised (.decodeFault 0xEB#8 s.pc)) ∧
    exec .unassigned_EC s = .fault (.raised (.decodeFault 0xEC#8 s.pc)) ∧
    exec .unassigned_ED s = .fault (.raised (.decodeFault 0xED#8 s.pc)) ∧
    exec .unassigned_F4 s = .fault (.raised (.decodeFault 0xF4#8 s.pc)) ∧
    exec .unassigned_FC s = .fault (.raised (.decodeFault 0xFC#8 s.pc)) ∧
    exec .unassigned_FD s = .fault (.raised (.decodeFault 0xFD#8 s.pc)))

/-- A step that fetches runs the instruction the bytes at pc decode to, and then lets a pending EI take effect (derived
from R2, R26, R172, R402). If nothing keeps the next step from fetching, and the three bytes at pc, pc + 1, pc + 2
decode to a well-formed instruction i, then step is exec of i in that state with halted cleared; after a next state,
if ei_pending is set and i is not EI, ime becomes 1 and ei_pending 0. -/
def Obligations.StepRunsDecodedInstruction : Prop :=
  ∀ (s : State) (i : Instr), s.willFetch = true →
    decodeBytes (memRead s s.pc) (memRead s (s.pc + 1#16)) (memRead s (s.pc + 2#16)) = i → i.wellFormed = true →
    step s = match exec i { s with halted := false } with
      | .next t => .next (if t.eiPending = true ∧ i ≠ .ei then { t with ime := true, eiPending := false } else t)
      | .fault f => .fault f
      | .refused r => .refused r

/-- A faulted machine answers its fault and a stopped one answers stuck; neither changes; Wake lifts only the stop
(derived from R9, R33, R352, R401, R402, R466). If a fault record is held, a step answers that fault and the host step
leaves the machine as it is; if none is held and the core is stopped, a step answers stuck and the host step leaves
the machine as it is, whatever is pending; Wake clears stopped and nothing else, and does not clear a fault. -/
def Obligations.FaultedAndStoppedHaveNoStep : Prop :=
  (∀ (s : State) (r : FaultRecord), s.fault = some r → step s = .fault (.raised r) ∧ hostStep s = (.fault r, s)) ∧
  (∀ s : State, s.fault = none → s.stopped = true → step s = .fault .stuck ∧ hostStep s = (.stuck, s)) ∧
  (∀ s : State, wake s = { s with stopped := false })

/-- A halted step with nothing pending adds 4 cycles and changes nothing else (derived from R351, R402, R410, R466). If
the machine is not faulted and not stopped, is halted, and no source is both requested in IF and enabled in IE, the
step answers the same state with cycles 4 higher, whatever ime is. -/
def Obligations.HaltedIdleStep : Prop :=
  ∀ s : State, s.fault = none → s.stopped = false → s.halted = true → s.somePending = false →
    step s = .next { s with cycles := s.cycles + 4 }

/-- With ime set and a source pending, the step dispatches the lowest pending source, or faults where sp < 2 (states R410,
R420). Let i be the lowest source that is both requested and enabled, and ime = 1, in a machine neither faulted nor
stopped, halted or not. With sp < 2 the step is StackFault(sp) and, at the host, changes nothing but the fault record.
Otherwise bit i of IF, ime, ei_pending and halted are cleared, pc is pushed (high byte first), pc becomes 0x0040 + 8 *
i and cycles grow by 20; nothing else changes but what the two bus writes of the push change. With ime = 0, or with no
source pending, no interrupt is taken: the step idles or runs an instruction (HaltedIdleStep,
StepRunsDecodedInstruction). -/
def Obligations.InterruptDispatch : Prop :=
  (∀ (s : State) (i : Nat), s.fault = none → s.stopped = false → s.ime = true → i < 5 → s.pendingSource i = true →
    (∀ j, j < i → s.pendingSource j = false) →
    (s.sp.toNat < 2 → step s = .fault (.raised (.stackFault s.sp)) ∧
      hostStep s = (.fault (.stackFault s.sp), { s with fault := some (.stackFault s.sp) })) ∧
    (2 ≤ s.sp.toNat → step s = .next
      { ({ s with halted := false, ifReg := s.ifReg &&& ~~~(1#5 <<< i), ime := false, eiPending := false }.pushed s.pc) with
          pc := BitVec.ofNat 16 (0x40 + 8 * i), cycles := s.cycles + 20 })) ∧
  (∀ s : State, s.somePending = decide (s.ieReg &&& s.ifReg.setWidth 8 &&& 0x1F#8 ≠ 0#8)) ∧
  (∀ s : State, s.fault = none → s.stopped = false → (s.ime = false ∨ s.somePending = false) →
    s.willFetch = true ∨ step s = .next { s with cycles := s.cycles + 4 })

/-- A running core faults only by an unassigned byte at pc or by sp at an end of its range, and never refuses (derived
from R400, R401, R403, R404, R407). From a machine neither faulted nor stopped, a step that faults raises DecodeFault
of the unassigned byte at pc and that pc, or StackFault of sp with sp < 2 or sp > 0xFFFD; the host step then leaves
every part of the machine but the fault record. No step and no instruction is refused. -/
def Obligations.StepFaultsAreTheTwo : Prop :=
  (∀ (s : State) (f : Fault), s.fault = none → s.stopped = false → step s = .fault f →
    ((memRead s s.pc ∈ illegalBytes ∧ f = .raised (.decodeFault (memRead s s.pc) s.pc)) ∨
      ((s.sp.toNat < 2 ∨ 0xFFFD < s.sp.toNat) ∧ f = .raised (.stackFault s.sp))) ∧
    ∃ r, f = .raised r ∧ hostStep s = (.fault r, { s with fault := some r })) ∧
  (∀ (s : State) (r : Refusal), step s ≠ .refused r) ∧
  (∀ (i : Instr) (s : State) (r : Refusal), exec i s ≠ .refused r)

/-- Every step from a legal state leads to a legal state (derived from R29, R39, R43, R44, R45, R86). Legal means:
memory is in canonical form, SVBK is not 0, Mbc1 bank1 and Mbc3 rom_bank are not 0 and Mbc3 uses 7 bits of it, the clock
registers exist exactly on an Mbc3 or Mbc30 with has-timer, an Mbc5 RAM bank has 3 bits with has-rumble and rumble is 0
without it, and ei_pending is 0 unless EI_DELAY is 1. If a step from a legal state answers a next state, that state is
legal. -/
def Obligations.LegalStateKept : Prop :=
  ∀ s t : State, s.legal = true → step s = .next t → t.legal = true

/-- The state after reset is legal, and a system reset of any legal machine is legal (derived from R39, R43, R48).
State.reset, whose RomOnly cartridge is the model's choice (log entry 3), is legal. A system reset of a legal state
gives a legal state. -/
def Obligations.LegalAtReset : Prop :=
  State.reset.legal = true ∧ ∀ s : State, s.legal = true → (systemReset s).legal = true

/-- No step changes the ROM image, anything derived from it, the parameters, or the kind of the controller (derived from
R5, R41, R42, R47, R61). If a step from a state with memory in canonical form answers a next state, then every byte of
the ROM image, the configuration derived at load, cgb_mode, EI_DELAY and the kind of the bank controller are as
before, and memory is again in canonical form. -/
def Obligations.ConfigurationKept : Prop :=
  ∀ s t : State, s.mem.wf = true → step s = .next t →
    (∀ j : Nat, cellByte t (.rom j) = cellByte s (.rom j)) ∧ t.cart = s.cart ∧ t.cgbMode = s.cgbMode ∧
    t.eiDelay = s.eiDelay ∧ t.mbc.kind = s.mbc.kind ∧ t.mem.wf = true

/-- Every step that answers a next state adds 4, 8, 12, 16, 20 or 24 cycles (derived from R30, R455, R490). If a step
answers a next state, cycles have grown by 4 * k for some k from 1 to 6; the fault record is still none. -/
def Obligations.CyclesGrowByFours : Prop :=
  ∀ s t : State, step s = .next t → t.fault = none ∧ ∃ k : Nat, 1 ≤ k ∧ k ≤ 6 ∧ t.cycles = s.cycles + 4 * k

/-- The cycle accumulator influences nothing: a step from a shifted accumulator is the same step, shifted (derived from
R30, R450, R455, R490). Adding n to cycles before a step changes its outcome only by n in cycles of the next state:
the same fault, or the same next state with cycles n higher. -/
def Obligations.CyclesAreNeverRead : Prop :=
  ∀ (s : State) (n : Nat), step { s with cycles := s.cycles + n } =
    match step s with
    | .next t => .next { t with cycles := t.cycles + n }
    | .fault f => .fault f
    | .refused r => .refused r

/-- Every address reads and writes exactly what the dispatcher tables give it (states R60, R61, R64, R65, R66, R68, R69,
R70, R71, R72). For every address a and byte b the read and the write follow the tables: the two ROM windows go to the
controller, 0x8000 to VRAM bank VBK in GBC mode else 0, 0xA000 to the controller, 0xC000 to work RAM bank 0, 0xD000 to
bank SVBK in GBC mode else 1, the echo to the same access 0x2000 lower, OAM, the unusable range (0xFF, no effect), the
I/O page by its offsets, high RAM, IE. A write to a ROM window changes the controller's latches only. -/
def Obligations.BusDispatch : Prop :=
  ∀ (s : State) (a : Word) (b : Byte),
    let n := a.toNat
    let vb := if s.cgbMode then s.vbk else 0#1
    let wb := if s.cgbMode then s.svbk else 1#3
    (memRead s a =
      if n < 0x4000 then mbcReadRomFixed s a
      else if n < 0x8000 then mbcReadRomSwitchable s a
      else if n < 0xA000 then cellByte s (.vram vb (BitVec.ofNat 13 (n - 0x8000)))
      else if n < 0xC000 then mbcReadRam s a
      else if n < 0xD000 then cellByte s (.wram 0#3 (BitVec.ofNat 12 (n - 0xC000)))
      else if n < 0xE000 then cellByte s (.wram wb (BitVec.ofNat 12 (n - 0xD000)))
      else if n < 0xFE00 then memRead s (BitVec.ofNat 16 (n - 0x2000))
      else if n < 0xFEA0 then cellByte s (.oam (BitVec.ofNat 8 (n - 0xFE00)))
      else if n < 0xFF00 then 0xFF#8
      else if n < 0xFF80 then
        (if n - 0xFF00 ∉ namedIo then 0xFF#8
         else if n = 0xFF0F then s.ifReg.setWidth 8 ||| 0xE0#8
         else if n = 0xFF4F then s.vbk.setWidth 8
         else if n = 0xFF70 then s.svbk.setWidth 8
         else cellByte s (.io (BitVec.ofNat 7 (n - 0xFF00))))
      else if n < 0xFFFF then cellByte s (.hram (BitVec.ofNat 7 (n - 0xFF80)))
      else s.ieReg) ∧
    (memWrite s a b =
      if n < 0x4000 then { s with mbc := mbcWriteRomFixed s.mbc a b }
      else if n < 0x8000 then { s with mbc := mbcWriteRomSwitchable s.cart s.mbc a b }
      else if n < 0xA000 then s.poke (.vram vb (BitVec.ofNat 13 (n - 0x8000))) b
      else if n < 0xC000 then mbcWriteRam s a b
      else if n < 0xD000 then s.poke (.wram 0#3 (BitVec.ofNat 12 (n - 0xC000))) b
      else if n < 0xE000 then s.poke (.wram wb (BitVec.ofNat 12 (n - 0xD000))) b
      else if n < 0xFE00 then memWrite s (BitVec.ofNat 16 (n - 0x2000)) b
      else if n < 0xFEA0 then s.poke (.oam (BitVec.ofNat 8 (n - 0xFE00))) b
      else if n < 0xFF00 then s
      else if n < 0xFF80 then
        (if n - 0xFF00 ∉ namedIo then s
         else if n = 0xFF0F then { s with ifReg := b.setWidth 5 }
         else if n = 0xFF4F then { s with vbk := b.setWidth 1 }
         else if n = 0xFF70 then { s with svbk := if b.toNat % 8 = 0 then 1#3 else BitVec.ofNat 3 b.toNat }
         else s.poke (.io (BitVec.ofNat 7 (n - 0xFF00))) b)
      else if n < 0xFFFF then s.poke (.hram (BitVec.ofNat 7 (n - 0xFF80))) b
      else { s with ieReg := b })

/-- The I/O page: named latches keep a byte, IF reads with its top bits set, SVBK is never 0, other offsets read 0xFF
(states R84, R85, R86, R87). For an offset i below 0x80: outside the 70 named offsets a read is 0xFF and a write
changes nothing; at 0x0F a read is IF with bits 7 to 5 set and a write stores b mod 32; at 0x4F a write stores b mod 2
and a read is that bit; at 0x70 a write stores b mod 8, or 1 where that is 0, and a read is the stored value; at every
other named offset a write then a read gives the byte back. A read after a write to SVBK or VBK goes to the bank just
written, in GBC mode. -/
def Obligations.IoPageRegisters : Prop :=
  (∀ (s : State) (i : Nat) (b : Byte), i < 0x80 → i ∉ namedIo →
    memRead s (BitVec.ofNat 16 (0xFF00 + i)) = 0xFF#8 ∧ memWrite s (BitVec.ofNat 16 (0xFF00 + i)) b = s) ∧
  (∀ (s : State) (i : Nat) (b : Byte), s.mem.wf = true → i ∈ namedIo → i ≠ 0x0F → i ≠ 0x4F → i ≠ 0x70 →
    memRead s (BitVec.ofNat 16 (0xFF00 + i)) = cellByte s (.io (BitVec.ofNat 7 i)) ∧
    memWrite s (BitVec.ofNat 16 (0xFF00 + i)) b = s.poke (.io (BitVec.ofNat 7 i)) b ∧
    memRead (memWrite s (BitVec.ofNat 16 (0xFF00 + i)) b) (BitVec.ofNat 16 (0xFF00 + i)) = b) ∧
  (∀ (s : State) (b : Byte),
    (memRead s 0xFF0F#16).toNat = 0xE0 + s.ifReg.toNat ∧
    memWrite s 0xFF0F#16 b = { s with ifReg := BitVec.ofNat 5 (b.toNat % 32) } ∧
    (memRead s 0xFF4F#16).toNat = s.vbk.toNat ∧
    memWrite s 0xFF4F#16 b = { s with vbk := BitVec.ofNat 1 (b.toNat % 2) } ∧
    (memRead s 0xFF70#16).toNat = s.svbk.toNat ∧
    memWrite s 0xFF70#16 b = { s with svbk := if b.toNat % 8 = 0 then 1#3 else BitVec.ofNat 3 (b.toNat % 8) }) ∧
  (∀ (s : State) (b : Byte) (off : BitVec 12), s.cgbMode = true →
    memRead (memWrite s 0xFF70#16 b) (0xD000#16 + off.setWidth 16) =
      cellByte s (.wram (if b.toNat % 8 = 0 then 1#3 else BitVec.ofNat 3 b.toNat) off)) ∧
  (∀ (s : State) (b : Byte) (off : BitVec 13), s.cgbMode = true →
    memRead (memWrite s 0xFF4F#16 b) (0x8000#16 + off.setWidth 16) =
      cellByte s (.vram (BitVec.ofNat 1 b.toNat) off))

/-- A byte written to a storage cell is read back, at that address and at every other address of the cell (derived from
R35, R68, R90, R94). If memory is in canonical form and the address written to reaches a storage cell (a byte of VRAM,
work RAM, OAM, high RAM, a plain I/O latch, enabled cartridge RAM), then a read of that address, and of every address
that reads that cell (the echo), gives the byte written. -/
def Obligations.WriteThenReadSameCell : Prop :=
  ∀ (s : State) (a : Word) (b : Byte) (x : Loc), s.mem.wf = true → storeCell s a = some x →
    readCell s a = some x ∧ ∀ a' : Word, readCell s a' = some x → memRead (memWrite s a b) a' = b

/-- A bus write changes at most the one storage cell its address reaches, and no CPU state or configuration (derived from
R61, R90, R94). From memory in canonical form, a write of b at a leaves every storage cell but the one it stores to,
where it stores to one; where it does, every address that does not read that cell reads as before. In every case it
changes nothing outside memory, the controller's latches, IF, IE, SVBK and VBK, and it keeps the canonical form. -/
def Obligations.WriteFrame : Prop :=
  ∀ (s : State) (a : Word) (b : Byte), s.mem.wf = true →
    (memWrite s a b).mem.wf = true ∧
    (∀ x : Loc, storeCell s a ≠ some x → cellByte (memWrite s a b) x = cellByte s x) ∧
    (storeCell s a ≠ none → ∀ a' : Word, readCell s a' ≠ storeCell s a → memRead (memWrite s a b) a' = memRead s a') ∧
    memWrite s a b =
      { s with
          mem := (memWrite s a b).mem, mbc := (memWrite s a b).mbc, ifReg := (memWrite s a b).ifReg,
          ieReg := (memWrite s a b).ieReg, svbk := (memWrite s a b).svbk, vbk := (memWrite s a b).vbk }

/-- A write that stores to no cell changes only what reads of its own register, or of the windows it steers, return
(derived from R61, R64, R66, R70, R94, R147). A write below 0x8000 changes no read of 0x8000 to 0x9FFF and of 0xC000
to 0xFFFF. A write above that stores to no cell changes no read at all (dropped, or a clock register, whose reads are
latched), unless it is to IF or IE (only that address), VBK (that address and VRAM) or SVBK (that address, 0xD000 to
0xDFFF and its echo). -/
def Obligations.RegisterWriteFrame : Prop :=
  ∀ (s : State) (a a' : Word) (b : Byte),
    (a.toNat < 0x8000 → (0x8000 ≤ a'.toNat ∧ a'.toNat < 0xA000) ∨ 0xC000 ≤ a'.toNat →
      memRead (memWrite s a b) a' = memRead s a') ∧
    (0x8000 ≤ a.toNat → storeCell s a = none → a ∉ [0xFF0F#16, 0xFF4F#16, 0xFF70#16, 0xFFFF#16] →
      memRead (memWrite s a b) a' = memRead s a') ∧
    (a = 0xFF0F#16 ∨ a = 0xFFFF#16 → a' ≠ a → memRead (memWrite s a b) a' = memRead s a') ∧
    (a = 0xFF4F#16 → a' ≠ a → ¬(0x8000 ≤ a'.toNat ∧ a'.toNat < 0xA000) →
      memRead (memWrite s a b) a' = memRead s a') ∧
    (a = 0xFF70#16 → a' ≠ a → ¬(0xD000 ≤ a'.toNat ∧ a'.toNat < 0xE000) → ¬(0xF000 ≤ a'.toNat ∧ a'.toNat < 0xFE00) →
      memRead (memWrite s a b) a' = memRead s a')

/-- A host bus access in 0x0000 to 0xFFFF is the bus access; outside it is AddressFault and faults the machine (derived
from R73, R405). A host read or write with an address from 0 to 0xFFFF is MemRead or MemWrite of that address (a read
changes nothing); with an address below 0 or above 0xFFFF it raises AddressFault of that integer, performs no access and
leaves the machine faulted with that record and otherwise as it was. That a machine which already holds a fault record
answers these moves too, and that an address fault then replaces its record, is the model's choice (log entry 14). -/
def Obligations.HostAddressRange : Prop :=
  ∀ (s : State) (addr : Int) (v : Nat),
    (0 ≤ addr ∧ addr ≤ 0xFFFF →
      busRead s addr = (.ok (memRead s (BitVec.ofInt 16 addr)), s) ∧
      busWrite s addr v = (.ok (), memWrite s (BitVec.ofInt 16 addr) (BitVec.ofNat 8 v))) ∧
    (addr < 0 ∨ 0xFFFF < addr →
      busRead s addr = (.error (.addressFault addr), { s with fault := some (.addressFault addr) }) ∧
      busWrite s addr v = (.error (.addressFault addr), { s with fault := some (.addressFault addr) }))

/-- Setting a register or a pair stores the value modulo its width, and AF keeps only the four flag bits of F (states
R21, R22, R24). After SetReg(R, v) the register reads v mod 256 and no other register, flag, nor anything else of the
machine has changed; after SetPair(P, v) for BC, DE, HL the pair reads v mod 65536 and its two registers are the high
and the low byte; after SetPair(AF, v) the pair reads v mod 65536 with its low four bits 0; F set to v keeps bits 7 to 4
as Z, N, H, C; each changes nothing else. -/
def Obligations.RegisterAccessors : Prop :=
  (∀ (s : State) (r : Reg8) (v : Nat), hostGetReg (hostSetReg s (.gp r) v) (.gp r) = BitVec.ofNat 8 (v % 256) ∧
    hostSetReg s (.gp r) v = (match r with
      | .a => { s with a := BitVec.ofNat 8 (v % 256) }
      | .b => { s with b := BitVec.ofNat 8 (v % 256) }
      | .c => { s with c := BitVec.ofNat 8 (v % 256) }
      | .d => { s with d := BitVec.ofNat 8 (v % 256) }
      | .e => { s with e := BitVec.ofNat 8 (v % 256) }
      | .h => { s with h := BitVec.ofNat 8 (v % 256) }
      | .l => { s with l := BitVec.ofNat 8 (v % 256) })) ∧
  (∀ (s : State) (r r' : HostReg) (v : Nat), r' ≠ r → hostGetReg (hostSetReg s r v) r' = hostGetReg s r') ∧
  (∀ (s : State) (q : StackPair) (v : Nat), (hostGetPair (hostSetPair s q v) q).toNat =
    if q = .af then v % 65536 - v % 16 else v % 65536) ∧
  (∀ (s : State) (v : Nat), (hostGetReg (hostSetReg s .f v) .f).toNat = v % 256 - v % 16 ∧
    hostSetReg s .f v = { s with
        flags := { z := v.testBit 7, n := v.testBit 6, h := v.testBit 5, c := v.testBit 4 } }) ∧
  (∀ s : State, (hostGetPair s .bc).toNat = s.b.toNat * 256 + s.c.toNat ∧
    (hostGetPair s .de).toNat = s.d.toNat * 256 + s.e.toNat ∧ (hostGetPair s .hl).toNat = s.h.toNat * 256 + s.l.toNat ∧
    (hostGetPair s .af).toNat = s.a.toNat * 256 + 128 * bitNat s.flags.z + 64 * bitNat s.flags.n +
      32 * bitNat s.flags.h + 16 * bitNat s.flags.c) ∧
  (∀ (s : State) (v : Nat),
    hostSetPair s .bc v = { s with b := BitVec.ofNat 8 (v % 65536 / 256), c := BitVec.ofNat 8 (v % 256) } ∧
    hostSetPair s .de v = { s with d := BitVec.ofNat 8 (v % 65536 / 256), e := BitVec.ofNat 8 (v % 256) } ∧
    hostSetPair s .hl v = { s with h := BitVec.ofNat 8 (v % 65536 / 256), l := BitVec.ofNat 8 (v % 256) } ∧
    hostSetPair s .af v = { s with
        a := BitVec.ofNat 8 (v % 65536 / 256),
        flags := { z := v.testBit 7, n := v.testBit 6, h := v.testBit 5, c := v.testBit 4 } })

/-- A ROM byte is read from the bank reduced modulo the bank count, 0xFF beyond the image, never out of bounds (states
R106). For an image of at least one byte the bank count is the number of 16 KiB banks, rounded up; a byte at offset
off below 0x4000 of bank number n is the byte of the image at (n mod count) * 0x4000 + off where that is below the
image's length, else 0xFF; the offset read is always below the rounded-up length. -/
def Obligations.BankReduction : Prop :=
  ∀ (s : State) (bank off : Nat), 1 ≤ s.cart.romLen → off < 0x4000 →
    let count := romBankCount s.cart
    let j := (bank % count) * 0x4000 + off
    s.cart.romLen ≤ count * 0x4000 ∧ count * 0x4000 < s.cart.romLen + 0x4000 ∧ 1 ≤ count ∧ j < count * 0x4000 ∧
    romByte s bank off = if j < s.cart.romLen then cellByte s (.rom j) else 0xFF#8

/-- Only a write to 0x0000-0x1FFF moves the RAM-enable gate, by its low nibble; a closed gate reads 0xFF and drops writes
(states R112). For every kind that has the latch, a write of b to 0x0000 to 0x1FFF sets ram_enable exactly when b mod
16 is 10, and no write elsewhere changes it; it is 0 after power-on and after a system reset. While it is 0, or the
kind has no latch, or the selected target does not exist, 0xA000 to 0xBFFF reads 0xFF and a write there changes
nothing. With ram_enable = 1 the target does not exist where the RAM bank count is 0 and no clock register is
selected, where a clock register is selected without has-timer, and for an unassigned select value. -/
def Obligations.RamEnableGate : Prop :=
  (∀ (s : State) (a : Word) (b : Byte), a.toNat < 0x2000 →
    (memWrite s a b).mbc.ramEnabled = s.mbc.ramEnabled.map (fun _ => decide (b.toNat % 16 = 10))) ∧
  (∀ (s : State) (a : Word) (b : Byte), 0x2000 ≤ a.toNat → (memWrite s a b).mbc.ramEnabled = s.mbc.ramEnabled) ∧
  (∀ (s : State) (a : Word) (b : Byte), 0xA000 ≤ a.toNat → a.toNat < 0xC000 →
    s.mbc.ramEnabled ≠ some true ∨ mbcRamTarget s.cart s.mbc = .none → memRead s a = 0xFF#8 ∧ memWrite s a b = s) ∧
  (∀ (cart : Cartridge) (m : Mbc), m.ramEnabled ≠ some true → mbcRamTarget cart m = .none) ∧
  (∀ (cart : Cartridge) (l : Mbc1), cart.ramBankCount = 0 → mbcRamTarget cart (.mbc1 l) = .none) ∧
  (∀ (cart : Cartridge) (l : Mbc5), cart.ramBankCount = 0 → mbcRamTarget cart (.mbc5 l) = .none) ∧
  (∀ (cart : Cartridge) (l : Mbc3),
    (cart.ramBankCount = 0 → l.sel.toNat < 8 → mbcRamTarget cart (.mbc30 l) = .none) ∧
    (cart.ramBankCount = 0 → l.sel.toNat < 4 → mbcRamTarget cart (.mbc3 l) = .none) ∧
    (cart.hasTimer = false → 8 ≤ l.sel.toNat → mbcRamTarget cart (.mbc3 l) = .none ∧
      mbcRamTarget cart (.mbc30 l) = .none) ∧
    (4 ≤ l.sel.toNat → l.sel.toNat < 8 → mbcRamTarget cart (.mbc3 l) = .none) ∧
    (13 ≤ l.sel.toNat → mbcRamTarget cart (.mbc3 l) = .none ∧ mbcRamTarget cart (.mbc30 l) = .none)) ∧
  (∀ (r : RtcInit) (timer : Bool) (k : MbcKind), (Mbc.powerOn r timer k).ramEnabled ≠ some true) ∧
  (∀ s : State, (systemReset s).mbc.ramEnabled ≠ some true)

/-- RomOnly ignores every control write, shows banks 0 and 1, and has no RAM (states R113). With a RomOnly cartridge a
read below 0x4000 is a byte of bank 0, a read in 0x4000 to 0x7FFF a byte of bank 1 at the offset a - 0x4000, a read in
0xA000 to 0xBFFF is 0xFF, and a write to any of the three ranges changes nothing. -/
def Obligations.RomOnlyController : Prop :=
  ∀ (s : State) (a : Word) (b : Byte), s.mbc = .romOnly →
    (a.toNat < 0x4000 → memRead s a = romByte s 0 a.toNat ∧ memWrite s a b = s) ∧
    (0x4000 ≤ a.toNat → a.toNat < 0x8000 → memRead s a = romByte s 1 (a.toNat - 0x4000) ∧ memWrite s a b = s) ∧
    (0xA000 ≤ a.toNat → a.toNat < 0xC000 → memRead s a = 0xFF#8 ∧ memWrite s a b = s)

/-- Mbc1: the four control registers, the two ROM windows and the RAM bank, as the rules give them (states R131, R132,
R133, R134, R135). On an Mbc1 cartridge a write below 0x2000 sets the gate, to 0x2000 to 0x3FFF sets bank1 to b mod 32
with 0 made 1, to 0x4000 to 0x5FFF sets bank2 to b mod 4, to 0x6000 to 0x7FFF sets mode to b mod 2, and nothing else
changes. The fixed window reads bank bank2 * 32 in mode 1, else 0; the switchable one bank bank2 * 32 + bank1; the RAM
window, when the gate is open and there are banks, bank (bank2 in mode 1, else 0) modulo the count. -/
def Obligations.Mbc1Controller : Prop :=
  ∀ (s : State) (l : Mbc1) (a : Word) (b : Byte), s.mbc = .mbc1 l →
    let l' : Mbc1 :=
        if a.toNat < 0x2000 then { l with ramEnable := decide (b.toNat % 16 = 10) }
        else if a.toNat < 0x4000 then { l with
            bank1 := if b.toNat % 32 = 0 then 1#5 else BitVec.ofNat 5 (b.toNat % 32) }
        else if a.toNat < 0x6000 then { l with bank2 := BitVec.ofNat 2 (b.toNat % 4) }
        else { l with mode := decide (b.toNat % 2 = 1) }
    (a.toNat < 0x8000 → memWrite s a b = { s with mbc := .mbc1 l' }) ∧
    (a.toNat < 0x4000 → memRead s a = romByte s (if l.mode then l.bank2.toNat * 32 else 0) a.toNat) ∧
    (0x4000 ≤ a.toNat → a.toNat < 0x8000 →
      memRead s a = romByte s (l.bank2.toNat * 32 + l.bank1.toNat) (a.toNat - 0x4000)) ∧
    (0xA000 ≤ a.toNat → a.toNat < 0xC000 → l.ramEnable = false ∨ s.cart.ramBankCount = 0 →
      memRead s a = 0xFF#8 ∧ memWrite s a b = s) ∧
    (0xA000 ≤ a.toNat → a.toNat < 0xC000 → l.ramEnable = true → s.cart.ramBankCount ≠ 0 →
      let x := Loc.cartRam (BitVec.ofNat 4 ((if l.mode then l.bank2.toNat else 0) % s.cart.ramBankCount))
        (BitVec.ofNat 13 (a.toNat - 0xA000))
      memRead s a = cellByte s x ∧ memWrite s a b = s.poke x b)

/-- Mbc3 and Mbc30: gate, ROM bank, select, clock latch, ROM windows, RAM banks and clock registers (states R141, R142,
R143, R144, R145, R146, R147, R149). On an Mbc3 or Mbc30 cartridge a write below 0x2000 sets the gate; to 0x2000 to
0x3FFF sets rom_bank to b, on Mbc3 b mod 128, with 0 made 1; to 0x4000 to 0x5FFF sets sel; to 0x6000 to 0x7FFF copies
the live clock to the latched one, where there is a clock, exactly when latch_prev is 0 and b is 1, and sets latch_prev.
The fixed window reads bank 0, the switchable one rom_bank. With the gate closed the RAM window reads 0xFF and drops
writes. Open: sel below 4 (below 8 on Mbc30) reaches that RAM bank modulo the count, none where it is 0; sel 0x08 to
0x0C with a timer reads the latched register and writes the stored bits of the live one; every other sel reaches
nothing. -/
def Obligations.Mbc3Controller : Prop :=
  ∀ (wide : Bool) (s : State) (l : Mbc3) (a : Word) (b : Byte),
    s.mbc = (if wide then Mbc.mbc30 l else Mbc.mbc3 l) →
    let bank := if wide then b.toNat else b.toNat % 128
    let banks := if wide then 8 else 4
    let l' : Mbc3 :=
        if a.toNat < 0x2000 then { l with ramEnable := decide (b.toNat % 16 = 10) }
        else if a.toNat < 0x4000 then { l with romBank := if bank = 0 then 1#8 else BitVec.ofNat 8 bank }
        else if a.toNat < 0x6000 then { l with sel := b }
        else { l with
            latchPrev := b,
            clocks := if l.latchPrev = 0#8 ∧ b = 1#8 then l.clocks.map (fun r => { r with rtcLatched := r.rtc })
              else l.clocks }
    (a.toNat < 0x8000 → memWrite s a b = { s with mbc := (if wide then Mbc.mbc30 else Mbc.mbc3) l' }) ∧
    (a.toNat < 0x4000 → memRead s a = romByte s 0 a.toNat) ∧
    (0x4000 ≤ a.toNat → a.toNat < 0x8000 → memRead s a = romByte s l.romBank.toNat (a.toNat - 0x4000)) ∧
    (0xA000 ≤ a.toNat → a.toNat < 0xC000 →
      (l.ramEnable = false → memRead s a = 0xFF#8 ∧ memWrite s a b = s) ∧
      (l.ramEnable = true → l.sel.toNat < banks → s.cart.ramBankCount = 0 → memRead s a = 0xFF#8 ∧ memWrite s a b = s) ∧
      (l.ramEnable = true → l.sel.toNat < banks → s.cart.ramBankCount ≠ 0 →
        let x := Loc.cartRam (BitVec.ofNat 4 (l.sel.toNat % s.cart.ramBankCount)) (BitVec.ofNat 13 (a.toNat - 0xA000))
        memRead s a = cellByte s x ∧ memWrite s a b = s.poke x b) ∧
      (l.ramEnable = true → banks ≤ l.sel.toNat → l.sel.toNat < 8 ∨ 12 < l.sel.toNat ∨ s.cart.hasTimer = false →
        memRead s a = 0xFF#8 ∧ memWrite s a b = s) ∧
      (∀ r : Clocks, l.clocks = some r → l.ramEnable = true → s.cart.hasTimer = true → 8 ≤ l.sel.toNat →
          l.sel.toNat ≤ 12 →
        let k : Clock :=
          if l.sel = 0x08#8 then { r.rtc with sec := BitVec.ofNat 6 (b.toNat % 64) }
          else if l.sel = 0x09#8 then { r.rtc with min := BitVec.ofNat 6 (b.toNat % 64) }
          else if l.sel = 0x0A#8 then { r.rtc with hour := BitVec.ofNat 5 (b.toNat % 32) }
          else if l.sel = 0x0B#8 then { r.rtc with dayLo := b }
          else { r.rtc with
              dayHi := decide (b.toNat % 2 = 1), halt := decide (b.toNat / 64 % 2 = 1),
              carry := decide (b.toNat / 128 = 1) }
        memWrite s a b = { s with mbc := (if wide then Mbc.mbc30 else Mbc.mbc3) { l with clocks := some { r with rtc := k } } } ∧
        (memRead s a).toNat =
          (if l.sel = 0x08#8 then r.rtcLatched.sec.toNat
           else if l.sel = 0x09#8 then r.rtcLatched.min.toNat
           else if l.sel = 0x0A#8 then r.rtcLatched.hour.toNat
           else if l.sel = 0x0B#8 then r.rtcLatched.dayLo.toNat
           else bitNat r.rtcLatched.dayHi + 64 * bitNat r.rtcLatched.halt + 128 * bitNat r.rtcLatched.carry)))

/-- RtcTick advances only the live clock of an Mbc3 or Mbc30 with a timer, by one second, with a sticky day carry (states
R148). A halted clock stays. Else seconds other than 59 count up modulo 64; at 59 they become 0 and minutes other than
59 count up modulo 64; at 59 they become 0 and hours other than 23 count up modulo 32; at 23 they become 0 and the
9-bit day counter counts up, at 511 to 0 with the carry bit set. So a running clock in normal range moves from t
seconds to t + 1 modulo 512 days, stays in range, and sets the carry exactly at the wrap. The host move changes no
other part of the machine, and nothing at all without a timer or on another kind; rtc_latched stays. -/
def Obligations.RtcTickCountsOneSecond : Prop :=
  (∀ k : Clock, k.tick =
    if k.halt then k
    else if k.sec.toNat ≠ 59 then { k with sec := BitVec.ofNat 6 ((k.sec.toNat + 1) % 64) }
    else if k.min.toNat ≠ 59 then { k with sec := 0#6, min := BitVec.ofNat 6 ((k.min.toNat + 1) % 64) }
    else if k.hour.toNat ≠ 23 then { k with sec := 0#6, min := 0#6, hour := BitVec.ofNat 5 ((k.hour.toNat + 1) % 32) }
    else
      let d := bitNat k.dayHi * 256 + k.dayLo.toNat + 1
      { k with
          sec := 0#6, min := 0#6, hour := 0#5, dayLo := BitVec.ofNat 8 (d % 256), dayHi := decide (d / 256 % 2 = 1),
          carry := k.carry || decide (d = 512) }) ∧
  (∀ k : Clock, k.inRange = true → k.halt = false →
    k.tick.seconds = (k.seconds + 1) % (512 * 86400) ∧ k.tick.inRange = true ∧ k.tick.halt = false ∧
    k.tick.carry = (k.carry || decide (k.seconds + 1 = 512 * 86400))) ∧
  (∀ s : State,
    let m : Mbc := match s.mbc with
      | .mbc3 l => .mbc3 { l with
          clocks := if s.cart.hasTimer then l.clocks.map (fun r => { r with rtc := r.rtc.tick }) else l.clocks }
      | .mbc30 l => .mbc30 { l with
          clocks := if s.cart.hasTimer then l.clocks.map (fun r => { r with rtc := r.rtc.tick }) else l.clocks }
      | .romOnly => .romOnly
      | .mbc1 l => .mbc1 l
      | .mbc5 l => .mbc5 l
    rtcTick s = { s with mbc := m })

/-- Mbc5: gate, 9-bit ROM bank with 0 allowed, RAM bank, rumble bit, as the rules give them (states R151, R152, R153,
R154). On an Mbc5 cartridge a write below 0x2000 sets the gate, to 0x2000 to 0x2FFF sets rom_lo, to 0x3000 to 0x3FFF
sets rom_hi to b mod 2, to 0x4000 to 0x5FFF sets ram_bank to b mod 16, or with has-rumble to b mod 8 and rumble to bit
3 of b, and to 0x6000 to 0x7FFF changes nothing. The fixed window reads bank 0, the switchable one rom_hi * 256 +
rom_lo, the RAM window, when the gate is open and there are banks, ram_bank modulo the count. -/
def Obligations.Mbc5Controller : Prop :=
  ∀ (s : State) (l : Mbc5) (a : Word) (b : Byte), s.mbc = .mbc5 l →
    let l' : Mbc5 :=
        if a.toNat < 0x2000 then { l with ramEnable := decide (b.toNat % 16 = 10) }
        else if a.toNat < 0x3000 then { l with romLo := b }
        else if a.toNat < 0x4000 then { l with romHi := BitVec.ofNat 1 (b.toNat % 2) }
        else if a.toNat < 0x6000 then
          (if s.cart.hasRumble then { l with
              ramBank := BitVec.ofNat 4 (b.toNat % 8), rumble := decide (b.toNat / 8 % 2 = 1) }
           else { l with ramBank := BitVec.ofNat 4 (b.toNat % 16) })
        else l
    (a.toNat < 0x8000 → memWrite s a b = { s with mbc := .mbc5 l' }) ∧
    (a.toNat < 0x4000 → memRead s a = romByte s 0 a.toNat) ∧
    (0x4000 ≤ a.toNat → a.toNat < 0x8000 →
      memRead s a = romByte s (l.romHi.toNat * 256 + l.romLo.toNat) (a.toNat - 0x4000)) ∧
    (0xA000 ≤ a.toNat → a.toNat < 0xC000 → l.ramEnable = false ∨ s.cart.ramBankCount = 0 →
      memRead s a = 0xFF#8 ∧ memWrite s a b = s) ∧
    (0xA000 ≤ a.toNat → a.toNat < 0xC000 → l.ramEnable = true → s.cart.ramBankCount ≠ 0 →
      let x := Loc.cartRam (BitVec.ofNat 4 (l.ramBank.toNat % s.cart.ramBankCount)) (BitVec.ofNat 13 (a.toNat - 0xA000))
      memRead s a = cellByte s x ∧ memWrite s a b = s.poke x b)

/-- A load is refused for a short image, a type byte without a row or a RAM size code of 6 or more, and only then
(derived from R100, R103, R104, R400, R406). An image shorter than 0x150 bytes is refused with nothing recorded; else a
type byte outside 00 to 03, 0F to 13 and 19 to 1E is refused with that byte; else a RAM size code of 6 or more is
refused with that byte; every other load answers a machine, whatever the header checksum is. That a short image records
nothing, and the order of the three tests, are the model's choice (log entry 13). -/
def Obligations.LoadRefusesUnsupported : Prop :=
  ∀ p : Params,
    let t := imageByte p.rom.cells 0x147
    let r := imageByte p.rom.cells 0x149
    let known := t.toNat ∈ [0x00, 0x01, 0x02, 0x03, 0x0F, 0x10, 0x11, 0x12, 0x13, 0x19, 0x1A, 0x1B, 0x1C, 0x1D, 0x1E]
    (p.rom.size < 0x150 → load p = .refused (.refusedLoad (.unsupportedCartridge none))) ∧
    (0x150 ≤ p.rom.size → ¬known → load p = .refused (.refusedLoad (.unsupportedCartridge (some t)))) ∧
    (0x150 ≤ p.rom.size → known → 6 ≤ r.toNat →
      load p = .refused (.refusedLoad (.unsupportedCartridge (some r)))) ∧
    (0x150 ≤ p.rom.size → known → r.toNat < 6 → ∃ s, load p = .next s)

/-- A load builds the machine the header asks for, every register and buffer at its reset value (derived from R5, R44,
R48, R101, R102, R103, R104, R105, R106, R107, R108). After a successful load: the CPU state is zero, IF, IE and VBK 0,
SVBK 1; the kind follows the type byte, Mbc3 becoming Mbc30 with more than 128 ROM banks or more than 4 RAM banks; the
RAM bank count is the table's; the title is bytes 0x134 to 0x142 (to 0x13E where bit 7 of byte 0x143 is 1) up to the
first zero byte, the CGB flag byte 0x143, the licensee bytes 0x144 and 0x145 where byte 0x14B is 0x33, else byte 0x14B;
checksum_valid says that byte 0x14D is minus the sum of bytes 0x134 to 0x14C, each plus one, modulo 256; GBC mode is the
parameter, or bit 7 of byte 0x143; the latches are at their reset values; the clock registers exist for types 0F and 10
only, with the live set from RTC_INIT and the latched copy equal; every byte of video, work, OAM and high RAM is 0xFF,
every I/O latch 0; ROM and cartridge RAM hold the given bytes; the state is legal. -/
def Obligations.LoadedMachine : Prop :=
  ∀ (p : Params) (s : State), load p = .next s →
    let t := (imageByte p.rom.cells 0x147).toNat
    let ramBanks := [0, 0, 1, 4, 16, 8].getD (imageByte p.rom.cells 0x149).toNat 0
    let romBanks := (p.rom.size + 0x3FFF) / 0x4000
    let k : Clock := {
        sec := p.rtcInit.s.setWidth 6, min := p.rtcInit.m.setWidth 6, hour := p.rtcInit.h.setWidth 5,
        dayLo := p.rtcInit.dl, dayHi := p.rtcInit.dh.getLsbD 0, halt := p.rtcInit.dh.getLsbD 6,
        carry := p.rtcInit.dh.getLsbD 7 }
    let l3 : Mbc3 := {
        ramEnable := false, romBank := 1#8, sel := 0#8, latchPrev := 0xFF#8,
        clocks := if t = 0x0F ∨ t = 0x10 then some { rtc := k, rtcLatched := k } else none }
    s.legal = true ∧
    s.mbc = (if t = 0 then .romOnly
      else if t < 0x0F then .mbc1 { ramEnable := false, bank1 := 1#5, bank2 := 0#2, mode := false }
      else if t < 0x19 then (if 128 < romBanks ∨ 4 < ramBanks then .mbc30 l3 else .mbc3 l3)
      else .mbc5 { ramEnable := false, romLo := 1#8, romHi := 0#1, ramBank := 0#4, rumble := false }) ∧
    s.cart.romLen = p.rom.size ∧ romBankCount s.cart = romBanks ∧ s.cart.ramBankCount = ramBanks ∧
    s.cart.hasTimer = decide (t = 0x0F ∨ t = 0x10) ∧ s.cart.hasRumble = decide (0x1C ≤ t) ∧
    s.cart.hasRam = decide (t ∈ [0x02, 0x03, 0x10, 0x12, 0x13, 0x1A, 0x1B, 0x1D, 0x1E]) ∧
    s.cart.hasBattery = decide (t ∈ [0x03, 0x0F, 0x10, 0x13, 0x1B, 0x1E]) ∧
    s.cart.title = ((List.range (if 0x80 ≤ (imageByte p.rom.cells 0x143).toNat then 11 else 15)).map
      (fun i => imageByte p.rom.cells (0x134 + i))).takeWhile (fun b => b ≠ 0x00#8) ∧
    s.cart.cgbFlag = imageByte p.rom.cells 0x143 ∧
    s.cart.licensee = (if imageByte p.rom.cells 0x14B = 0x33#8
      then [imageByte p.rom.cells 0x144, imageByte p.rom.cells 0x145] else [imageByte p.rom.cells 0x14B]) ∧
    s.cart.checksumValid = decide ((((List.range 25).map
      (fun i => (imageByte p.rom.cells (0x134 + i)).toNat + 1)).sum + (imageByte p.rom.cells 0x14D).toNat) % 256 = 0) ∧
    s.cgbMode = p.cgbMode.getD ((imageByte p.rom.cells 0x143).getLsbD 7) ∧ s.eiDelay = p.eiDelay ∧
    s = { State.reset with mbc := s.mbc, cart := s.cart, cgbMode := s.cgbMode, eiDelay := s.eiDelay, mem := s.mem } ∧
    (∀ bank off, cellByte s (.vram bank off) = 0xFF#8) ∧ (∀ bank off, cellByte s (.wram bank off) = 0xFF#8) ∧
    (∀ off, cellByte s (.oam off) = 0xFF#8) ∧ (∀ off, cellByte s (.hram off) = 0xFF#8) ∧
    (∀ off, cellByte s (.io off) = 0x00#8) ∧
    (∀ j, j < p.rom.size → cellByte s (.rom j) = imageByte p.rom.cells j) ∧
    (∀ (bank : BitVec 4) (off : BitVec 13), bank.toNat < ramBanks →
      cellByte s (.cartRam bank off) = imageByte p.cartRamInit (bank.toNat * 8192 + off.toNat))

/-- After reset every register, flag and control bit is 0, SVBK is 1, RAM reads 0xFF and I/O latches read 0 (derived from
R48, R470, R472). State.reset has A to L, the flags, pc, sp, ime, ei_pending, halted, stopped and cycles 0, no fault,
IF and IE 0, SVBK 1, VBK 0; every byte of video, work, OAM and high RAM is 0xFF and every I/O latch 0; a read of IF
gives 0xE0. Its cartridge is the model's choice (log entry 3) and nothing is said of it here. -/
def Obligations.ResetValues : Prop :=
  let s := State.reset
  s.a = 0#8 ∧ s.b = 0#8 ∧ s.c = 0#8 ∧ s.d = 0#8 ∧ s.e = 0#8 ∧ s.h = 0#8 ∧ s.l = 0#8 ∧
  s.flags = { z := false, n := false, h := false, c := false } ∧ s.pc = 0x0000#16 ∧ s.sp = 0x0000#16 ∧
  s.ime = false ∧ s.eiPending = false ∧ s.halted = false ∧ s.stopped = false ∧ s.fault = none ∧ s.cycles = 0 ∧
  s.ifReg = 0#5 ∧ s.ieReg = 0x00#8 ∧ s.svbk = 1#3 ∧ s.vbk = 0#1 ∧ memRead s 0xFF0F#16 = 0xE0#8 ∧
  (∀ bank off, cellByte s (.vram bank off) = 0xFF#8) ∧ (∀ bank off, cellByte s (.wram bank off) = 0xFF#8) ∧
  (∀ off, cellByte s (.oam off) = 0xFF#8) ∧ (∀ off, cellByte s (.hram off) = 0xFF#8) ∧
  (∀ off, cellByte s (.io off) = 0x00#8)

/-- A system reset puts everything at its reset value but ROM, cartridge RAM, the live clock and the configuration
(states R470). After a system reset from any state: the CPU, IF, IE, SVBK, VBK and the fault record are as after
power-on; every byte of video, work, OAM and high RAM is 0xFF, every I/O latch 0; every ROM and cartridge RAM byte, the
cartridge, GBC mode and EI_DELAY are as before; the controller keeps its kind, its latches are at their reset values,
and an Mbc3 clock, where there is one, keeps its live registers and latches a copy of them. -/
def Obligations.SystemResetKeepsCartridge : Prop :=
  ∀ s : State,
    systemReset s = { State.reset with
        mbc := (systemReset s).mbc, cart := s.cart, cgbMode := s.cgbMode, eiDelay := s.eiDelay,
        mem := (systemReset s).mem } ∧
    (systemReset s).mbc = (match s.mbc with
      | .romOnly => .romOnly
      | .mbc1 _ => .mbc1 { ramEnable := false, bank1 := 1#5, bank2 := 0#2, mode := false }
      | .mbc3 l => .mbc3 {
          ramEnable := false, romBank := 1#8, sel := 0#8, latchPrev := 0xFF#8,
          clocks := l.clocks.map (fun r => { r with rtcLatched := r.rtc }) }
      | .mbc30 l => .mbc30 {
          ramEnable := false, romBank := 1#8, sel := 0#8, latchPrev := 0xFF#8,
          clocks := l.clocks.map (fun r => { r with rtcLatched := r.rtc }) }
      | .mbc5 _ => .mbc5 { ramEnable := false, romLo := 1#8, romHi := 0#1, ramBank := 0#4, rumble := false }) ∧
    (∀ x : Loc, cellByte (systemReset s) x = match x with
      | .vram _ _ => 0xFF#8
      | .wram _ _ => 0xFF#8
      | .oam _ => 0xFF#8
      | .hram _ => 0xFF#8
      | .io _ => 0x00#8
      | .cartRam bank off => cellByte s (.cartRam bank off)
      | .rom j => cellByte s (.rom j)) ∧
    memRead (systemReset s) 0x0000#16 = romByte s 0 0 ∧ (systemReset s).pc = 0x0000#16

/-- LD r,r'; LD r,n; LD r,(HL); LD (HL),r; LD (HL),n: encoding, result, cost, and nothing else changes (states R200, R201,
R202, R203, R204, R170). For every register r, r' and byte n, in every state: LD r,r' (01dddsss) copies r' to r in 4
cycles; LD r,n (00ddd110 n) puts n into r in 8; LD r,(HL) (01ddd110) reads HL before it writes r, in 8; LD (HL),r
(01110sss) writes r at HL in 8; LD (HL),n (36 n) writes n at HL in 12. Each answers a next state with pc past the
instruction, cycles grown by the cost, and nothing else changed but what the bus write changes. LD r,r with both the
same changes no register. -/
def Obligations.LoadRegister : Prop :=
  (∀ (r r' : Reg8) (s : State), decodesTo (ofLd (.reg r) (.reg r')) [BitVec.ofNat 8 (0x40 + 8 * r.code + r'.code)] ∧
    exec (ofLd (.reg r) (.reg r')) s = .next ({ s with pc := s.pc + 1#16, cycles := s.cycles + 4 }.setReg r (s.getReg r'))) ∧
  (∀ (r : Reg8) (n : Byte) (s : State), decodesTo (ofLdImm (.reg r) n) [BitVec.ofNat 8 (0x06 + 8 * r.code), n] ∧
    exec (ofLdImm (.reg r) n) s = .next ({ s with pc := s.pc + 2#16, cycles := s.cycles + 8 }.setReg r n)) ∧
  (∀ (r : Reg8) (s : State), decodesTo (ofLd (.reg r) .mHL) [BitVec.ofNat 8 (0x46 + 8 * r.code)] ∧
    exec (ofLd (.reg r) .mHL) s = .next ({ s with pc := s.pc + 1#16, cycles := s.cycles + 8 }.setReg r (memRead s s.hl))) ∧
  (∀ (r : Reg8) (s : State), decodesTo (ofLd .mHL (.reg r)) [BitVec.ofNat 8 (0x70 + r.code)] ∧
    exec (ofLd .mHL (.reg r)) s = .next (memWrite { s with pc := s.pc + 1#16, cycles := s.cycles + 8 } s.hl (s.getReg r))) ∧
  (∀ (n : Byte) (s : State), decodesTo (.ld_mHL_n n) [0x36#8, n] ∧
    exec (.ld_mHL_n n) s = .next (memWrite { s with pc := s.pc + 2#16, cycles := s.cycles + 12 } s.hl n)) ∧
  (∀ (r : Reg8) (s : State), exec (ofLd (.reg r) (.reg r)) s = exec .nop s)

/-- LD A,(BC); LD A,(DE); LD (BC),A; LD (DE),A; LD A,(nn); LD (nn),A: encoding, result, cost, nothing else changed (states
R205, R206, R207, R208, R209, R210). In every state 0A and 1A load A from BC and DE, 02 and 12 write A at BC and DE,
each in 8 cycles; FA nn loads A from nn and EA nn writes A at nn, low byte of nn first, in 16. Each answers a next
state with pc past the instruction and nothing else changed but what the bus write changes. -/
def Obligations.LoadAccumulatorPairs : Prop :=
  (∀ s : State, decodesTo .ld_A_mBC [0x0A#8] ∧
    exec .ld_A_mBC s = .next { s with pc := s.pc + 1#16, cycles := s.cycles + 8, a := memRead s (word16 s.b s.c) }) ∧
  (∀ s : State, decodesTo .ld_A_mDE [0x1A#8] ∧
    exec .ld_A_mDE s = .next { s with pc := s.pc + 1#16, cycles := s.cycles + 8, a := memRead s (word16 s.d s.e) }) ∧
  (∀ s : State, decodesTo .ld_mBC_A [0x02#8] ∧
    exec .ld_mBC_A s = .next (memWrite { s with pc := s.pc + 1#16, cycles := s.cycles + 8 } (word16 s.b s.c) s.a)) ∧
  (∀ s : State, decodesTo .ld_mDE_A [0x12#8] ∧
    exec .ld_mDE_A s = .next (memWrite { s with pc := s.pc + 1#16, cycles := s.cycles + 8 } (word16 s.d s.e) s.a)) ∧
  (∀ (nn : Word) (s : State), decodesTo (.ld_A_mnn nn) [0xFA#8, lo8 nn, hi8 nn] ∧
    exec (.ld_A_mnn nn) s = .next { s with pc := s.pc + 3#16, cycles := s.cycles + 16, a := memRead s nn }) ∧
  (∀ (nn : Word) (s : State), decodesTo (.ld_mnn_A nn) [0xEA#8, lo8 nn, hi8 nn] ∧
    exec (.ld_mnn_A nn) s = .next (memWrite { s with pc := s.pc + 3#16, cycles := s.cycles + 16 } nn s.a))

/-- LDH A,(C); LDH (C),A; LDH A,(n); LDH (n),A reach 0xFF00 plus the offset (states R211, R212, R213, R214). In every
state F2 and E2 load and store A at 0xFF00 + C in 8 cycles, F0 n and E0 n at 0xFF00 + n in 12, the address always in
0xFF00 to 0xFFFF. Each answers a next state with pc past the instruction and nothing else changed but what the bus
write changes. -/
def Obligations.LoadHighPage : Prop :=
  (∀ s : State, decodesTo .ldh_A_mC [0xF2#8] ∧
    exec .ldh_A_mC s = .next { s with
        pc := s.pc + 1#16, cycles := s.cycles + 8, a := memRead s (BitVec.ofNat 16 (0xFF00 + s.c.toNat)) }) ∧
  (∀ s : State, decodesTo .ldh_mC_A [0xE2#8] ∧
    exec .ldh_mC_A s = .next (memWrite { s with pc := s.pc + 1#16, cycles := s.cycles + 8 } (BitVec.ofNat 16 (0xFF00 + s.c.toNat)) s.a)) ∧
  (∀ (n : Byte) (s : State), decodesTo (.ldh_A_mn n) [0xF0#8, n] ∧
    exec (.ldh_A_mn n) s = .next { s with
        pc := s.pc + 2#16, cycles := s.cycles + 12, a := memRead s (BitVec.ofNat 16 (0xFF00 + n.toNat)) }) ∧
  (∀ (n : Byte) (s : State), decodesTo (.ldh_mn_A n) [0xE0#8, n] ∧
    exec (.ldh_mn_A n) s = .next (memWrite { s with pc := s.pc + 2#16, cycles := s.cycles + 12 } (BitVec.ofNat 16 (0xFF00 + n.toNat)) s.a))

/-- LD (HL+),A; LD A,(HL+); LD (HL-),A; LD A,(HL-): the access at the old HL, then HL moved by one, modulo 2^16 (states
R215, R216, R217, R218). In every state 22 and 32 write A at HL, 2A and 3A load A from HL, and HL then becomes HL + 1
(22, 2A) or HL - 1 (32, 3A) modulo 65536; 8 cycles, no flag, nothing else changed but what the bus write changes. -/
def Obligations.LoadAndStepHl : Prop :=
  (∀ s : State, decodesTo .ld_mHLinc_A [0x22#8] ∧ exec .ld_mHLinc_A s = .next
    { memWrite { s with pc := s.pc + 1#16, cycles := s.cycles + 8 } s.hl s.a with
        h := BitVec.ofNat 8 ((s.hl.toNat + 1) % 65536 / 256),
        l := BitVec.ofNat 8 ((s.hl.toNat + 1) % 65536 % 256) }) ∧
  (∀ s : State, decodesTo .ld_A_mHLinc [0x2A#8] ∧ exec .ld_A_mHLinc s = .next
    { s with
        pc := s.pc + 1#16, cycles := s.cycles + 8, a := memRead s s.hl,
        h := BitVec.ofNat 8 ((s.hl.toNat + 1) % 65536 / 256),
        l := BitVec.ofNat 8 ((s.hl.toNat + 1) % 65536 % 256) }) ∧
  (∀ s : State, decodesTo .ld_mHLdec_A [0x32#8] ∧ exec .ld_mHLdec_A s = .next
    { memWrite { s with pc := s.pc + 1#16, cycles := s.cycles + 8 } s.hl s.a with
        h := BitVec.ofNat 8 ((s.hl.toNat + 65535) % 65536 / 256),
        l := BitVec.ofNat 8 ((s.hl.toNat + 65535) % 65536 % 256) }) ∧
  (∀ s : State, decodesTo .ld_A_mHLdec [0x3A#8] ∧ exec .ld_A_mHLdec s = .next
    { s with
        pc := s.pc + 1#16, cycles := s.cycles + 8, a := memRead s s.hl,
        h := BitVec.ofNat 8 ((s.hl.toNat + 65535) % 65536 / 256),
        l := BitVec.ofNat 8 ((s.hl.toNat + 65535) % 65536 % 256) })

/-- LD rr,nn; LD (nn),SP; LD SP,HL; LD HL,SP+e: encoding, result, flags of the low-byte addition, cost (states R220, R221,
R222, R223). In every state LD rr,nn (00pp0001 nn) puts nn into the pair or sp in 12 cycles; LD (nn),SP (08 nn) writes
the low byte of sp at nn and then the high byte at nn + 1 modulo 2^16, in 20; LD SP,HL (F9) copies HL to sp in 8; LD
HL,SP+e (F8 e) puts sp plus the signed byte, modulo 2^16, into HL in 12, with Z = N = 0 and H and C the carries out of
bits 3 and 7 of the unsigned addition of the low byte of sp and the byte; no other flag or register changes. -/
def Obligations.LoadSixteenBits : Prop :=
  (∀ (p : Pair) (nn : Word) (s : State), decodesTo (ofLdPair p nn) [BitVec.ofNat 8 (0x01 + 16 * p.code), lo8 nn, hi8 nn] ∧
    exec (ofLdPair p nn) s = .next ({ s with pc := s.pc + 3#16, cycles := s.cycles + 12 }.setPair p nn)) ∧
  (∀ (nn : Word) (s : State), decodesTo (.ld_mnn_SP nn) [0x08#8, lo8 nn, hi8 nn] ∧ exec (.ld_mnn_SP nn) s = .next
    (memWrite (memWrite { s with pc := s.pc + 3#16, cycles := s.cycles + 20 } nn (lo8 s.sp)) (nn + 1#16) (hi8 s.sp))) ∧
  (∀ s : State, decodesTo .ld_SP_HL [0xF9#8] ∧
    exec .ld_SP_HL s = .next { s with pc := s.pc + 1#16, cycles := s.cycles + 8, sp := word16 s.h s.l }) ∧
  (∀ (e : Byte) (s : State), decodesTo (.ld_HL_SPe e) [0xF8#8, e] ∧
    let r := BitVec.ofNat 16 (s.sp.toNat + (if e.toNat < 128 then e.toNat else e.toNat + 65280))
    exec (.ld_HL_SPe e) s = .next { s with
        pc := s.pc + 2#16, cycles := s.cycles + 12, h := hi8 r, l := lo8 r,
        flags := {
            z := false, n := false, h := decide (s.sp.toNat % 16 + e.toNat % 16 > 15),
            c := decide (s.sp.toNat % 256 + e.toNat > 255) } })

/-- ADD, ADC, SUB, SBC with r, (HL) and n: encoding, result and the four flags over the integers, cost (states R230, R231,
R232, R233, R234). Every form of the eight two-operand operations encodes as 10ooosss or 11ooo110 n. In every state,
with v the operand (a register in 4 cycles, the byte at HL in 8, the immediate in 8) and c the carry flag as 0 or 1:
ADD and ADC leave A + v (+ c) mod 256, H where the low nibbles (and c) exceed 15, C where the sum exceeds 255, N = 0;
SUB and SBC leave A - v (- c) mod 256, H where the low nibble of A is below that of v (plus c), C where A is below v
(plus c), N = 1; Z where the result is 0. Nothing else changes but pc and cycles. -/
def Obligations.AddSubtract : Prop :=
  (∀ (op : AluOp) (o : Operand), decodesTo (ofAlu op o) [BitVec.ofNat 8 (0x80 + 8 * op.code + o.code)]) ∧
  (∀ (op : AluOp) (n : Byte), decodesTo (ofAluImm op n) [BitVec.ofNat 8 (0xC6 + 8 * op.code), n]) ∧
  (∀ (s : State) (i : Instr) (v : Byte) (len : Word) (cost : Nat), aluForm .add s i v len cost →
    exec i s = .next { s with
        pc := s.pc + len, cycles := s.cycles + cost, a := BitVec.ofNat 8 (s.a.toNat + v.toNat),
        flags := {
            z := decide ((s.a.toNat + v.toNat) % 256 = 0), n := false,
            h := decide (s.a.toNat % 16 + v.toNat % 16 > 15), c := decide (s.a.toNat + v.toNat > 255) } }) ∧
  (∀ (s : State) (i : Instr) (v : Byte) (len : Word) (cost : Nat), aluForm .adc s i v len cost →
    exec i s = .next { s with
        pc := s.pc + len, cycles := s.cycles + cost, a := BitVec.ofNat 8 (s.a.toNat + v.toNat + bitNat s.flags.c),
        flags := {
            z := decide ((s.a.toNat + v.toNat + bitNat s.flags.c) % 256 = 0), n := false,
            h := decide (s.a.toNat % 16 + v.toNat % 16 + bitNat s.flags.c > 15),
            c := decide (s.a.toNat + v.toNat + bitNat s.flags.c > 255) } }) ∧
  (∀ (s : State) (i : Instr) (v : Byte) (len : Word) (cost : Nat), aluForm .sub s i v len cost →
    exec i s = .next { s with
        pc := s.pc + len, cycles := s.cycles + cost, a := BitVec.ofInt 8 ((s.a.toNat : Int) - v.toNat),
        flags := {
            z := decide (((s.a.toNat : Int) - v.toNat) % 256 = 0), n := true,
            h := decide (s.a.toNat % 16 < v.toNat % 16), c := decide (s.a.toNat < v.toNat) } }) ∧
  (∀ (s : State) (i : Instr) (v : Byte) (len : Word) (cost : Nat), aluForm .sbc s i v len cost →
    exec i s = .next { s with
        pc := s.pc + len, cycles := s.cycles + cost,
        a := BitVec.ofInt 8 ((s.a.toNat : Int) - v.toNat - bitNat s.flags.c),
        flags := {
            z := decide (((s.a.toNat : Int) - v.toNat - bitNat s.flags.c) % 256 = 0), n := true,
            h := decide (s.a.toNat % 16 < v.toNat % 16 + bitNat s.flags.c),
            c := decide (s.a.toNat < v.toNat + bitNat s.flags.c) } })

/-- AND, XOR, OR, CP with r, (HL) and n: encoding, result bit by bit, flags, cost; CP leaves A (states R235, R236, R237,
R238). In every state, with v the operand of any of the three forms: AND, XOR and OR leave the bitwise result in A,
with Z where it is 0, N = 0, C = 0, and H = 1 for AND, 0 for XOR and OR; CP leaves A and sets Z where A = v, N = 1, H
where the low nibble of A is below that of v, C where A is below v. Nothing else changes but pc and cycles. -/
def Obligations.LogicAndCompare : Prop :=
  (∀ (op : AluOp) (o : Operand), decodesTo (ofAlu op o) [BitVec.ofNat 8 (0x80 + 8 * op.code + o.code)]) ∧
  (∀ (op : AluOp) (n : Byte), decodesTo (ofAluImm op n) [BitVec.ofNat 8 (0xC6 + 8 * op.code), n]) ∧
  (∀ (s : State) (i : Instr) (v : Byte) (len : Word) (cost : Nat), aluForm .and s i v len cost →
    exec i s = .next { s with
        pc := s.pc + len, cycles := s.cycles + cost, a := s.a &&& v,
        flags := { z := decide (s.a.toNat &&& v.toNat = 0), n := false, h := true, c := false } }) ∧
  (∀ (s : State) (i : Instr) (v : Byte) (len : Word) (cost : Nat), aluForm .xor s i v len cost →
    exec i s = .next { s with
        pc := s.pc + len, cycles := s.cycles + cost, a := s.a ^^^ v,
        flags := { z := decide (s.a = v), n := false, h := false, c := false } }) ∧
  (∀ (s : State) (i : Instr) (v : Byte) (len : Word) (cost : Nat), aluForm .or s i v len cost →
    exec i s = .next { s with
        pc := s.pc + len, cycles := s.cycles + cost, a := s.a ||| v,
        flags := { z := decide (s.a = 0#8 ∧ v = 0#8), n := false, h := false, c := false } }) ∧
  (∀ (s : State) (i : Instr) (v : Byte) (len : Word) (cost : Nat), aluForm .cp s i v len cost →
    exec i s = .next { s with
        pc := s.pc + len, cycles := s.cycles + cost,
        flags := {
            z := decide (s.a = v), n := true, h := decide (s.a.toNat % 16 < v.toNat % 16),
            c := decide (s.a.toNat < v.toNat) } })

/-- INC and DEC of a register and of (HL): result modulo 256, Z, N, H, and C kept (states R239, R240, R241, R242). In
every state INC r (00ddd100) and INC (HL) (34) leave the operand plus 1 mod 256, N = 0, H where its low nibble was 15;
DEC r (00ddd101) and DEC (HL) (35) leave it minus 1 mod 256, N = 1, H where its low nibble was 0; Z where the result
is 0, C unchanged; 4 cycles for a register, 12 for one read and one write at HL. Nothing else changes but what the bus
write changes. -/
def Obligations.IncrementDecrementByte : Prop :=
  (∀ (r : Reg8) (s : State), decodesTo (ofInc (.reg r)) [BitVec.ofNat 8 (0x04 + 8 * r.code)] ∧
    exec (ofInc (.reg r)) s = .next ({ s with
        pc := s.pc + 1#16, cycles := s.cycles + 4,
        flags := {
            z := decide (((s.getReg r).toNat + 1) % 256 = 0), n := false, h := decide ((s.getReg r).toNat % 16 = 15),
            c := s.flags.c } }.setReg r (BitVec.ofNat 8 (((s.getReg r).toNat + 1))))) ∧
  (∀ s : State, decodesTo .inc_mHL [0x34#8] ∧
    exec .inc_mHL s = .next { memWrite { s with pc := s.pc + 1#16, cycles := s.cycles + 12 } s.hl (BitVec.ofNat 8 (((memRead s s.hl).toNat + 1))) with
        flags := {
            z := decide (((memRead s s.hl).toNat + 1) % 256 = 0), n := false,
            h := decide ((memRead s s.hl).toNat % 16 = 15), c := s.flags.c } }) ∧
  (∀ (r : Reg8) (s : State), decodesTo (ofDec (.reg r)) [BitVec.ofNat 8 (0x05 + 8 * r.code)] ∧
    exec (ofDec (.reg r)) s = .next ({ s with
        pc := s.pc + 1#16, cycles := s.cycles + 4,
        flags := {
            z := decide (((s.getReg r).toNat + 255) % 256 = 0), n := true, h := decide ((s.getReg r).toNat % 16 = 0),
            c := s.flags.c } }.setReg r (BitVec.ofNat 8 (((s.getReg r).toNat + 255))))) ∧
  (∀ s : State, decodesTo .dec_mHL [0x35#8] ∧
    exec .dec_mHL s = .next { memWrite { s with pc := s.pc + 1#16, cycles := s.cycles + 12 } s.hl (BitVec.ofNat 8 (((memRead s s.hl).toNat + 255))) with
        flags := {
            z := decide (((memRead s s.hl).toNat + 255) % 256 = 0), n := true,
            h := decide ((memRead s s.hl).toNat % 16 = 0), c := s.flags.c } })

/-- DAA: the decimal correction by N, H, C and the old A, with H cleared, N kept and C never cleared (states R243). In
every state DAA (27) takes 4 cycles. With N = 0 it adds 6 where H is set or the low nibble of A exceeds 9, and 0x60
where C is set or A exceeds 0x99, both tests on A before the correction, and C becomes whether 0x60 was added; with N
= 1 it subtracts 6 where H is set and 0x60 where C is set, and C stays. A is the result mod 256, Z whether it is 0, H
= 0, N unchanged; nothing else changes. -/
def Obligations.DecimalAdjust : Prop :=
  ∀ s : State, decodesTo .daa [0x27#8] ∧
    let high := s.flags.c || decide (s.a.toNat > 0x99)
    let add := (if s.flags.h = true ∨ s.a.toNat % 16 > 9 then 0x06 else 0) + (if high then 0x60 else 0)
    let sub := (if s.flags.h then 0x06 else 0) + (if s.flags.c then 0x60 else 0)
    let t := if s.flags.n then s.a.toNat + 256 - sub else s.a.toNat + add
    exec .daa s = .next { s with
        pc := s.pc + 1#16, cycles := s.cycles + 4, a := BitVec.ofNat 8 t,
        flags := {
            z := decide (t % 256 = 0), n := s.flags.n, h := false, c := if s.flags.n then s.flags.c else high } }

/-- ADC then DAA adds, and SBC then DAA subtracts, two-digit decimal numbers with carry (derived from R232, R234, R243).
If A and n are two decimal digits each, then ADC A,n followed by DAA leaves two decimal digits whose value is the sum
with the incoming carry modulo 100, and C is set exactly where that sum is 100 or more; SBC A,n followed by DAA leaves
the difference less the incoming carry modulo 100, and C exactly where it is negative. The table the source asks DAA
to be checked against. -/
def Obligations.DecimalArithmetic : Prop :=
  (∀ (s t u : State) (n : Byte), isBcd s.a = true → isBcd n = true → exec (.adc_A_n n) s = .next t →
    exec .daa t = .next u →
    isBcd u.a = true ∧ bcdValue u.a = (bcdValue s.a + bcdValue n + bitNat s.flags.c) % 100 ∧
    u.flags.c = decide (100 ≤ bcdValue s.a + bcdValue n + bitNat s.flags.c)) ∧
  (∀ (s t u : State) (n : Byte), isBcd s.a = true → isBcd n = true → exec (.sbc_A_n n) s = .next t →
    exec .daa t = .next u →
    isBcd u.a = true ∧ bcdValue u.a = (bcdValue s.a + 100 - bcdValue n - bitNat s.flags.c) % 100 ∧
    u.flags.c = decide (bcdValue s.a < bcdValue n + bitNat s.flags.c))

/-- CPL complements A with N = H = 1; SCF and CCF set and complement C with N = H = 0; other flags kept (states R244,
R245, R246). In every state CPL (2F) leaves 255 - A, N = H = 1, Z and C unchanged; SCF (37) leaves C = 1, N = H = 0, Z
unchanged; CCF (3F) complements C, N = H = 0, Z unchanged; 4 cycles each, nothing else changed. -/
def Obligations.AccumulatorFlagOps : Prop :=
  (∀ s : State, decodesTo .cpl [0x2F#8] ∧ exec .cpl s = .next { s with
      pc := s.pc + 1#16, cycles := s.cycles + 4, a := BitVec.ofNat 8 (255 - s.a.toNat),
      flags := { z := s.flags.z, n := true, h := true, c := s.flags.c } }) ∧
  (∀ s : State, decodesTo .scf [0x37#8] ∧ exec .scf s = .next { s with
      pc := s.pc + 1#16, cycles := s.cycles + 4, flags := { z := s.flags.z, n := false, h := false, c := true } }) ∧
  (∀ s : State, decodesTo .ccf [0x3F#8] ∧ exec .ccf s = .next { s with
      pc := s.pc + 1#16, cycles := s.cycles + 4,
      flags := { z := s.flags.z, n := false, h := false, c := !s.flags.c } })

/-- ADD HL,rr; INC rr; DEC rr; ADD SP,e: result modulo 2^16, flags, cost; sp wraps here without a fault (states R260,
R261, R262, R263). In every state ADD HL,rr (00pp1001) leaves HL plus the pair or sp mod 65536, N = 0, H the carry out
of bit 11, C out of bit 15, Z unchanged, in 8 cycles; INC rr (00pp0011) and DEC rr (00pp1011) add or subtract 1 mod
65536 in 8, no flag; ADD SP,e (E8 e) leaves sp plus the signed byte mod 65536 in 16, Z = N = 0, H and C the carries
out of bits 3 and 7 of the unsigned addition of the low byte and the byte. Nothing else changes. -/
def Obligations.SixteenBitArithmetic : Prop :=
  (∀ (p : Pair) (s : State), decodesTo (ofAddHl p) [BitVec.ofNat 8 (0x09 + 16 * p.code)] ∧
    let r := BitVec.ofNat 16 (s.hl.toNat + (s.getPair p).toNat)
    exec (ofAddHl p) s = .next { s with
        pc := s.pc + 1#16, cycles := s.cycles + 8, h := hi8 r, l := lo8 r,
        flags := {
            z := s.flags.z, n := false, h := decide (s.hl.toNat % 4096 + (s.getPair p).toNat % 4096 > 4095),
            c := decide (s.hl.toNat + (s.getPair p).toNat > 65535) } }) ∧
  (∀ (p : Pair) (s : State), decodesTo (ofIncPair p) [BitVec.ofNat 8 (0x03 + 16 * p.code)] ∧
    exec (ofIncPair p) s = .next ({ s with pc := s.pc + 1#16, cycles := s.cycles + 8 }.setPair p (BitVec.ofNat 16 ((s.getPair p).toNat + 1)))) ∧
  (∀ (p : Pair) (s : State), decodesTo (ofDecPair p) [BitVec.ofNat 8 (0x0B + 16 * p.code)] ∧
    exec (ofDecPair p) s = .next ({ s with pc := s.pc + 1#16, cycles := s.cycles + 8 }.setPair p (BitVec.ofNat 16 ((s.getPair p).toNat + 65535)))) ∧
  (∀ (e : Byte) (s : State), decodesTo (.add_SP_e e) [0xE8#8, e] ∧
    exec (.add_SP_e e) s = .next { s with
        pc := s.pc + 2#16, cycles := s.cycles + 16,
        sp := BitVec.ofNat 16 (s.sp.toNat + (if e.toNat < 128 then e.toNat else e.toNat + 65280)),
        flags := {
            z := false, n := false, h := decide (s.sp.toNat % 16 + e.toNat % 16 > 15),
            c := decide (s.sp.toNat % 256 + e.toNat > 255) } })

/-- RLCA, RRCA, RLA, RRA: the rotated A, C the bit shifted out, and Z cleared whatever the result (states R270, R271,
R272, R273). In every state RLCA (07), RRCA (0F), RLA (17), RRA (1F) take 4 cycles and leave A rotated as the rules
say (rotArith: left or right, the bit shifted out or the old C entering), C the bit shifted out, Z = N = H = 0;
nothing else changes. -/
def Obligations.RotateAccumulator : Prop :=
  (∀ s : State, decodesTo .rlca [0x07#8] ∧ exec .rlca s = .next { s with
      pc := s.pc + 1#16, cycles := s.cycles + 4, a := BitVec.ofNat 8 (rotArith .rlc s.a.toNat (bitNat s.flags.c)).1,
      flags := {
          z := false, n := false, h := false, c := decide ((rotArith .rlc s.a.toNat (bitNat s.flags.c)).2 = 1) } }) ∧
  (∀ s : State, decodesTo .rrca [0x0F#8] ∧ exec .rrca s = .next { s with
      pc := s.pc + 1#16, cycles := s.cycles + 4, a := BitVec.ofNat 8 (rotArith .rrc s.a.toNat (bitNat s.flags.c)).1,
      flags := {
          z := false, n := false, h := false, c := decide ((rotArith .rrc s.a.toNat (bitNat s.flags.c)).2 = 1) } }) ∧
  (∀ s : State, decodesTo .rla [0x17#8] ∧ exec .rla s = .next { s with
      pc := s.pc + 1#16, cycles := s.cycles + 4, a := BitVec.ofNat 8 (rotArith .rl s.a.toNat (bitNat s.flags.c)).1,
      flags := {
          z := false, n := false, h := false, c := decide ((rotArith .rl s.a.toNat (bitNat s.flags.c)).2 = 1) } }) ∧
  (∀ s : State, decodesTo .rra [0x1F#8] ∧ exec .rra s = .next { s with
      pc := s.pc + 1#16, cycles := s.cycles + 4, a := BitVec.ofNat 8 (rotArith .rr s.a.toNat (bitNat s.flags.c)).1,
      flags := {
          z := false, n := false, h := false, c := decide ((rotArith .rr s.a.toNat (bitNat s.flags.c)).2 = 1) } })

/-- RLC, RRC, RL, RR, SLA, SRA, SWAP, SRL on every register and on (HL): result, Z, C, cost (states R274, R275, R276,
R277, R278, R279, R280, R281, R282). In every state CB 00yyyzzz applies operation yyy (rotArith) to the operand: in 8
cycles to a register, in 16 to the byte at HL, read once and written once; Z where the result is 0, N = H = 0, C the
bit shifted out (0 for SWAP). Nothing else changes but what the bus write changes. -/
def Obligations.RotateShiftOperand : Prop :=
  (∀ (op : RotOp) (o : Operand), decodesTo (ofRot op o) [0xCB#8, BitVec.ofNat 8 (8 * op.code + o.code)]) ∧
  (∀ (op : RotOp) (r : Reg8) (s : State),
    let t := rotArith op (s.getReg r).toNat (bitNat s.flags.c)
    exec (ofRot op (.reg r)) s = .next ({ s with
        pc := s.pc + 2#16, cycles := s.cycles + 8,
        flags := {
            z := decide (t.1 = 0), n := false, h := false, c := decide (t.2 = 1) } }.setReg r (BitVec.ofNat 8 t.1))) ∧
  (∀ (op : RotOp) (s : State),
    let t := rotArith op (memRead s s.hl).toNat (bitNat s.flags.c)
    exec (ofRot op .mHL) s = .next { memWrite { s with pc := s.pc + 2#16, cycles := s.cycles + 16 } s.hl (BitVec.ofNat 8 t.1) with
        flags := { z := decide (t.1 = 0), n := false, h := false, c := decide (t.2 = 1) } })

/-- BIT b,s: Z where the bit is clear, N = 0, H = 1, C kept, and nothing is written (states R300). In every state CB
01bbbzzz takes 8 cycles for a register and 12 for the byte at HL and leaves Z = 1 exactly where bit b of the operand
is 0, N = 0, H = 1, C unchanged; no register, no memory and nothing else changes. -/
def Obligations.BitTest : Prop :=
  (∀ (b : Fin 8) (o : Operand), decodesTo (ofBit b o) [0xCB#8, BitVec.ofNat 8 (0x40 + 8 * b.val + o.code)]) ∧
  (∀ (b : Fin 8) (r : Reg8) (s : State), exec (ofBit b (.reg r)) s = .next { s with
      pc := s.pc + 2#16, cycles := s.cycles + 8,
      flags := { z := decide ((s.getReg r).toNat / 2 ^ b.val % 2 = 0), n := false, h := true, c := s.flags.c } }) ∧
  (∀ (b : Fin 8) (s : State), exec (ofBit b .mHL) s = .next { s with
      pc := s.pc + 2#16, cycles := s.cycles + 12,
      flags := { z := decide ((memRead s s.hl).toNat / 2 ^ b.val % 2 = 0), n := false, h := true, c := s.flags.c } })

/-- RES b,s and SET b,s write the operand with bit b clear or set, every other bit kept, and no flag (states R301, R302).
In every state CB 10bbbzzz and CB 11bbbzzz write back, in 8 cycles for a register and 16 for the byte at HL, the
operand less 2^b where bit b is 1 (RES), or plus 2^b where it is 0 (SET); the write to HL is made in every case; no
flag and nothing else changes but what the bus write changes. -/
def Obligations.ResetSetBit : Prop :=
  (∀ (b : Fin 8) (o : Operand), decodesTo (ofRes b o) [0xCB#8, BitVec.ofNat 8 (0x80 + 8 * b.val + o.code)]) ∧
  (∀ (b : Fin 8) (r : Reg8) (s : State),
    let a := (s.getReg r).toNat
    exec (ofRes b (.reg r)) s = .next ({ s with pc := s.pc + 2#16, cycles := s.cycles + 8 }.setReg r
      (BitVec.ofNat 8 (a - a / 2 ^ b.val % 2 * 2 ^ b.val)))) ∧
  (∀ (b : Fin 8) (s : State),
    let a := (memRead s s.hl).toNat
    exec (ofRes b .mHL) s = .next (memWrite { s with pc := s.pc + 2#16, cycles := s.cycles + 16 } s.hl
      (BitVec.ofNat 8 (a - a / 2 ^ b.val % 2 * 2 ^ b.val)))) ∧
  (∀ (b : Fin 8) (o : Operand), decodesTo (ofSet b o) [0xCB#8, BitVec.ofNat 8 (0xC0 + 8 * b.val + o.code)]) ∧
  (∀ (b : Fin 8) (r : Reg8) (s : State),
    let a := (s.getReg r).toNat
    exec (ofSet b (.reg r)) s = .next ({ s with pc := s.pc + 2#16, cycles := s.cycles + 8 }.setReg r
      (BitVec.ofNat 8 (a + (1 - a / 2 ^ b.val % 2) * 2 ^ b.val)))) ∧
  (∀ (b : Fin 8) (s : State),
    let a := (memRead s s.hl).toNat
    exec (ofSet b .mHL) s = .next (memWrite { s with pc := s.pc + 2#16, cycles := s.cycles + 16 } s.hl
      (BitVec.ofNat 8 (a + (1 - a / 2 ^ b.val % 2) * 2 ^ b.val))))

/-- JP, JP cc, JP HL, JR, JR cc: the target, the condition, the cost taken and not taken, nothing else changed (states
R310, R311, R312, R313, R314, R315). The four conditions test Z and C. In every state JP nn (C3) sets pc to nn in 16
cycles; JP cc,nn (110cc010) in 16 where the condition holds, else pc + 3 in 12; JP HL (E9) sets pc to HL in 4, reading
no memory; JR e (18) sets pc to pc + 2 plus the signed byte mod 65536 in 12; JR cc,e (001cc000) likewise in 12 where
the condition holds, else pc + 2 in 8. Only pc and cycles change. -/
def Obligations.Jumps : Prop :=
  (∀ s : State, s.cond .nz = !s.flags.z ∧ s.cond .z = s.flags.z ∧ s.cond .nc = !s.flags.c ∧ s.cond .c = s.flags.c) ∧
  (∀ (nn : Word) (s : State), decodesTo (.jp_nn nn) [0xC3#8, lo8 nn, hi8 nn] ∧
    exec (.jp_nn nn) s = .next { s with pc := nn, cycles := s.cycles + 16 }) ∧
  (∀ (cc : Cond) (nn : Word) (s : State), decodesTo (ofJp cc nn) [BitVec.ofNat 8 (0xC2 + 8 * cc.code), lo8 nn, hi8 nn] ∧
    exec (ofJp cc nn) s = .next (if s.cond cc then { s with pc := nn, cycles := s.cycles + 16 }
      else { s with pc := s.pc + 3#16, cycles := s.cycles + 12 })) ∧
  (∀ s : State, decodesTo .jp_HL [0xE9#8] ∧
    exec .jp_HL s = .next { s with pc := word16 s.h s.l, cycles := s.cycles + 4 }) ∧
  (∀ (e : Byte) (s : State), decodesTo (.jr_e e) [0x18#8, e] ∧
    exec (.jr_e e) s = .next { s with
        cycles := s.cycles + 12,
        pc := BitVec.ofNat 16 (s.pc.toNat + 2 + (if e.toNat < 128 then e.toNat else e.toNat + 65280)) }) ∧
  (∀ (cc : Cond) (e : Byte) (s : State), decodesTo (ofJr cc e) [BitVec.ofNat 8 (0x20 + 8 * cc.code), e] ∧
    exec (ofJr cc e) s = .next (if s.cond cc then { s with
        cycles := s.cycles + 12,
        pc := BitVec.ofNat 16 (s.pc.toNat + 2 + (if e.toNat < 128 then e.toNat else e.toNat + 65280)) }
      else { s with pc := s.pc + 2#16, cycles := s.cycles + 8 }))

/-- CALL, CALL cc, RST: the return address pushed, the target, the cost; StackFault where they push with sp < 2 (states
R316, R317, R321). CALL nn (CD, 24 cycles), CALL cc,nn (110cc100, 24 where the condition holds) and RST t (11ttt111,
16) push the address of the next instruction and set pc to nn or 8 * ttt, in every state with sp >= 2; with sp < 2
they are StackFault(sp). CALL cc,nn whose condition fails only sets pc to pc + 3 in 12 cycles, whatever sp is. -/
def Obligations.Calls : Prop :=
  (∀ (nn : Word) (s : State), decodesTo (.call_nn nn) [0xCD#8, lo8 nn, hi8 nn] ∧
    (2 ≤ s.sp.toNat → exec (.call_nn nn) s = .next
      { { s with pc := s.pc + 3#16, cycles := s.cycles + 24 }.pushed (s.pc + 3#16) with pc := nn }) ∧
    (s.sp.toNat < 2 → exec (.call_nn nn) s = .fault (.raised (.stackFault s.sp)))) ∧
  (∀ (cc : Cond) (nn : Word) (s : State), decodesTo (ofCall cc nn) [BitVec.ofNat 8 (0xC4 + 8 * cc.code), lo8 nn, hi8 nn] ∧
    (s.cond cc = true → 2 ≤ s.sp.toNat → exec (ofCall cc nn) s = .next
      { { s with pc := s.pc + 3#16, cycles := s.cycles + 24 }.pushed (s.pc + 3#16) with pc := nn }) ∧
    (s.cond cc = true → s.sp.toNat < 2 → exec (ofCall cc nn) s = .fault (.raised (.stackFault s.sp))) ∧
    (s.cond cc = false → exec (ofCall cc nn) s = .next { s with pc := s.pc + 3#16, cycles := s.cycles + 12 })) ∧
  (∀ (t : Fin 8) (s : State), decodesTo (ofRst t) [BitVec.ofNat 8 (0xC7 + 8 * t.val)] ∧
    (2 ≤ s.sp.toNat → exec (ofRst t) s = .next
      { { s with pc := s.pc + 1#16, cycles := s.cycles + 16 }.pushed (s.pc + 1#16) with
          pc := BitVec.ofNat 16 (8 * t.val) }) ∧
    (s.sp.toNat < 2 → exec (ofRst t) s = .fault (.raised (.stackFault s.sp))))

/-- RET, RET cc, RETI pop pc; RETI sets ime at once; StackFault where they pop with sp > 0xFFFD (states R318, R319, R320).
RET (C9, 16 cycles), RET cc (110cc000, 20 where the condition holds) and RETI (D9, 16) set pc to the word at sp, low
byte at sp and high byte at sp + 1, and sp to sp + 2, in every state with sp at most 0xFFFD; RETI also sets ime and
clears ei_pending. With sp above 0xFFFD they are StackFault(sp). RET cc whose condition fails only sets pc to pc + 1
in 8 cycles. -/
def Obligations.Returns : Prop :=
  (∀ s : State, decodesTo .ret [0xC9#8] ∧
    (s.sp.toNat ≤ 0xFFFD → exec .ret s = .next { s with
        cycles := s.cycles + 16, sp := s.sp + 2#16, pc := word16 (memRead s (s.sp + 1#16)) (memRead s s.sp) }) ∧
    (0xFFFD < s.sp.toNat → exec .ret s = .fault (.raised (.stackFault s.sp)))) ∧
  (∀ (cc : Cond) (s : State), decodesTo (ofRet cc) [BitVec.ofNat 8 (0xC0 + 8 * cc.code)] ∧
    (s.cond cc = true → s.sp.toNat ≤ 0xFFFD → exec (ofRet cc) s = .next
      { s with
          cycles := s.cycles + 20, sp := s.sp + 2#16, pc := word16 (memRead s (s.sp + 1#16)) (memRead s s.sp) }) ∧
    (s.cond cc = true → 0xFFFD < s.sp.toNat → exec (ofRet cc) s = .fault (.raised (.stackFault s.sp))) ∧
    (s.cond cc = false → exec (ofRet cc) s = .next { s with pc := s.pc + 1#16, cycles := s.cycles + 8 })) ∧
  (∀ s : State, decodesTo .reti [0xD9#8] ∧
    (s.sp.toNat ≤ 0xFFFD → exec .reti s = .next { s with
        cycles := s.cycles + 16, sp := s.sp + 2#16, ime := true, eiPending := false,
        pc := word16 (memRead s (s.sp + 1#16)) (memRead s s.sp) }) ∧
    (0xFFFD < s.sp.toNat → exec .reti s = .fault (.raised (.stackFault s.sp))))

/-- PUSH and POP of every pair, POP AF taking the flags from bits 7 to 4; StackFault at the ends of the range (states
R342, R343, R344). In every state with sp >= 2, PUSH qq (11qq0101, 16 cycles) pushes the pair, AF with the packed
flags; with sp < 2 it is StackFault(sp). In every state with sp at most 0xFFFD, POP qq (11qq0001, 12 cycles) sets sp
to sp + 2 and the pair to the word at sp; POP AF takes A from the high byte and Z, N, H, C from bits 7, 6, 5, 4 of the
low byte; with sp above 0xFFFD it is StackFault(sp). Nothing else changes but what the bus writes change. -/
def Obligations.PushAndPop : Prop :=
  (∀ (q : StackPair) (s : State), decodesTo (ofPush q) [BitVec.ofNat 8 (0xC5 + 16 * q.code)] ∧
    (2 ≤ s.sp.toNat → exec (ofPush q) s = .next ({ s with pc := s.pc + 1#16, cycles := s.cycles + 16 }.pushed (match q with
      | .bc => word16 s.b s.c
      | .de => word16 s.d s.e
      | .hl => word16 s.h s.l
      | .af => word16 s.a (BitVec.ofNat 8 (128 * bitNat s.flags.z + 64 * bitNat s.flags.n + 32 * bitNat s.flags.h +
          16 * bitNat s.flags.c))))) ∧
    (s.sp.toNat < 2 → exec (ofPush q) s = .fault (.raised (.stackFault s.sp)))) ∧
  (∀ (q : StackPair) (s : State), decodesTo (ofPop q) [BitVec.ofNat 8 (0xC1 + 16 * q.code)] ∧
    (s.sp.toNat ≤ 0xFFFD → exec (ofPop q) s = .next
      (let t := { s with pc := s.pc + 1#16, cycles := s.cycles + 12, sp := s.sp + 2#16 }
       let lo := memRead s s.sp
       let hi := memRead s (s.sp + 1#16)
       match q with
       | .bc => { t with b := hi, c := lo }
       | .de => { t with d := hi, e := lo }
       | .hl => { t with h := hi, l := lo }
       | .af => { t with
           a := hi, flags := { z := lo.getLsbD 7, n := lo.getLsbD 6, h := lo.getLsbD 5, c := lo.getLsbD 4 } })) ∧
    (0xFFFD < s.sp.toNat → exec (ofPop q) s = .fault (.raised (.stackFault s.sp))))

/-- A push to plain storage lies little-endian above the new sp, and the pop after it gives the word and sp back (derived
from R88, R340, R341). From memory in canonical form, with sp >= 2 and both addresses below sp reaching storage cells:
push16(v) succeeds, the low byte of v then reads at the new sp and the high byte at sp + 1, and pop16 returns v with
sp as before the push. With sp < 2 push16 faults with StackFault(sp), with sp > 0xFFFD pop16 does. -/
def Obligations.PushPopRoundTrip : Prop :=
  (∀ (s : State) (v : Word), s.mem.wf = true → 2 ≤ s.sp.toNat → storeCell s (s.sp - 1#16) ≠ none →
    storeCell s (s.sp - 2#16) ≠ none → ∃ t u, push16 v s = .ok t ∧ t.sp = s.sp - 2#16 ∧ memRead t t.sp = lo8 v ∧
      memRead t (t.sp + 1#16) = hi8 v ∧ pop16 t = .ok (v, u) ∧ u = { t with sp := s.sp }) ∧
  (∀ (s : State) (v : Word), s.sp.toNat < 2 → push16 v s = .error (.raised (.stackFault s.sp))) ∧
  (∀ s : State, 0xFFFD < s.sp.toNat → pop16 s = .error (.raised (.stackFault s.sp)))

/-- NOP, HALT, STOP, DI and EI change only pc, cycles and their own control bit (derived from R350, R351, R352, R353,
R354, R402). In every state NOP (00) changes only pc and cycles; HALT (76) also sets halted; STOP (10 n), whatever n is,
sets stopped and moves pc by 2; DI (F3) clears ime and ei_pending; EI (FB) sets ime with EI_DELAY = 0 and ei_pending
with EI_DELAY = 1; 4 cycles each. A halted step with nothing pending adds 4 cycles and changes nothing else; with a
source pending it is the step of the machine awake. With EI_DELAY = 1 ime becomes 1 at the end of the next instruction
that is not an EI; a DI there cancels it. While stopped a step is stuck, and Wake clears stopped. -/
def Obligations.ControlInstructions : Prop :=
  (∀ s : State, decodesTo .nop [0x00#8] ∧ exec .nop s = .next { s with pc := s.pc + 1#16, cycles := s.cycles + 4 }) ∧
  (∀ s : State, decodesTo .halt [0x76#8] ∧ exec .halt s = .next { s with
      pc := s.pc + 1#16, cycles := s.cycles + 4, halted := true }) ∧
  (∀ s : State, s.fault = none → s.stopped = false → s.halted = true →
    (s.somePending = false → step s = .next { s with cycles := s.cycles + 4 }) ∧
    (s.somePending = true → step s = step { s with halted := false })) ∧
  (∀ (n : Byte) (s : State), decodesTo (.stop n) [0x10#8, n] ∧
    exec (.stop n) s = .next { s with pc := s.pc + 2#16, cycles := s.cycles + 4, stopped := true }) ∧
  (∀ s : State, s.fault = none → s.stopped = true → step s = .fault .stuck ∧ (wake s).stopped = false) ∧
  (∀ s : State, decodesTo .di [0xF3#8] ∧
    exec .di s = .next { s with pc := s.pc + 1#16, cycles := s.cycles + 4, ime := false, eiPending := false }) ∧
  (∀ s : State, decodesTo .ei [0xFB#8] ∧ exec .ei s = .next
    (if s.eiDelay then { s with pc := s.pc + 1#16, cycles := s.cycles + 4, eiPending := true }
     else { s with pc := s.pc + 1#16, cycles := s.cycles + 4, ime := true })) ∧
  (∀ (i : Instr) (s : State), finishStep i s =
    if s.eiPending = true ∧ i ≠ .ei then { s with ime := true, eiPending := false } else s)

/-- Every instruction changes the bus by exactly the writes its form makes, in order, and by nothing else (derived from
R61, R89, R90, R92, R95). Whenever exec of any instruction answers a next state: memory, the controller, IF, IE, SVBK
and VBK are those that its writes leave (instrWrites: the address and byte each form computes, in order; none for a
form that stores nothing), every storage cell outside the ones they store to, each looked up in the state its write
meets, is unchanged, and where the form writes nothing every address reads as before. -/
def Obligations.StoresExactly : Prop :=
  ∀ (i : Instr) (s t : State), s.mem.wf = true → exec i s = .next t →
    t.mem = (applyWrites s (instrWrites i s)).mem ∧ t.mbc = (applyWrites s (instrWrites i s)).mbc ∧
    t.ifReg = (applyWrites s (instrWrites i s)).ifReg ∧ t.ieReg = (applyWrites s (instrWrites i s)).ieReg ∧
    t.svbk = (applyWrites s (instrWrites i s)).svbk ∧ t.vbk = (applyWrites s (instrWrites i s)).vbk ∧
    (∀ x : Loc, x ∉ writtenCells s (instrWrites i s) → cellByte t x = cellByte s x) ∧
    (instrWrites i s = [] → ∀ a : Word, memRead t a = memRead s a)

/-- Every instruction forces, keeps or computes each flag as the flag table says, and a dispatch keeps all four (derived
from R25, R420). Whenever exec of any instruction answers a next state, each flag the table marks 0 is clear, each it
marks 1 is set, each it marks unchanged is as before (instrFlagRow); an interrupt dispatch leaves all four flags. -/
def Obligations.FlagEffectsTable : Prop :=
  (∀ (i : Instr) (s t : State), exec i s = .next t →
    (instrFlagRow i).z.allows s.flags.z t.flags.z = true ∧ (instrFlagRow i).n.allows s.flags.n t.flags.n = true ∧
    (instrFlagRow i).h.allows s.flags.h t.flags.h = true ∧ (instrFlagRow i).c.allows s.flags.c t.flags.c = true) ∧
  (∀ s t : State, s.ime = true → s.somePending = true → step s = .next t → t.flags = s.flags)

/-- Every move of the host keeps a legal machine legal (derived from R22, R34, R39, R43, R44, R45, R96, R460). From a
legal state, SetReg, SetPair, SetPC, SetSP, SetIME, SetCycles, BusRead and BusWrite (of any integer address, a fault
record written included), raw writes, RaiseInterrupt, RtcTick, Wake and Step, with any arguments, leave a legal state.
(Load and Reset: LoadedMachine and LegalAtReset.) -/
def Obligations.HostMovesKeepLegal : Prop :=
  ∀ s : State, s.legal = true →
    (∀ r v, (hostSetReg s r v).legal = true) ∧ (∀ q v, (hostSetPair s q v).legal = true) ∧
    (∀ v, (hostSetPc s v).legal = true) ∧ (∀ v, (hostSetSp s v).legal = true) ∧
    (∀ b, (hostSetIme s b).legal = true) ∧ (∀ n, (hostSetCycles s n).legal = true) ∧
    (∀ addr, (busRead s addr).2.legal = true) ∧ (∀ addr v, (busWrite s addr v).2.legal = true) ∧
    (∀ place v, (rawWrite s place v).legal = true) ∧ (∀ i, (raiseInterrupt s i).legal = true) ∧
    (rtcTick s).legal = true ∧ (wake s).legal = true ∧ (hostStep s).2.legal = true

/-- SetPC, SetSP, SetIME, SetCycles, Wake, RtcTick and RaiseInterrupt change only what they name (derived from R22, R37,
R410, R411, R460). In every state: SetPC and SetSP store v mod 65536, SetIME and SetCycles their argument, Wake clears
stopped, RtcTick changes nothing but the controller's clock (RtcTickCountsOneSecond), and RaiseInterrupt(i) sets bit i
of IF and keeps the other bits, so that with bit i of IE set some source is pending; each leaves every other part of the
machine as it was. -/
def Obligations.HostMovesChangeOnlyTheirTarget : Prop :=
  ∀ s : State,
    (∀ v, hostSetPc s v = { s with pc := BitVec.ofNat 16 (v % 65536) }) ∧
    (∀ v, hostSetSp s v = { s with sp := BitVec.ofNat 16 (v % 65536) }) ∧
    (∀ b, hostSetIme s b = { s with ime := b }) ∧ (∀ n, hostSetCycles s n = { s with cycles := n }) ∧
    wake s = { s with stopped := false } ∧ rtcTick s = { s with mbc := (rtcTick s).mbc } ∧
    (∀ i : Fin 5, raiseInterrupt s i = { s with ifReg := (raiseInterrupt s i).ifReg } ∧
      (∀ j : Nat, (raiseInterrupt s i).ifReg.getLsbD j = (decide (j = i.val) || s.ifReg.getLsbD j)) ∧
      (s.ieReg.getLsbD i.val = true → (raiseInterrupt s i).somePending = true))

/-- Raw access reads and writes one byte of a buffer or latch that exists, and nothing else (derived from R35, R36, R37,
R38, R39, R40, R41, R44, R107, R460). A raw read gives the byte of any cell of video RAM, work RAM, OAM (160), high RAM
(127), the named plain I/O latches and the cartridge RAM banks that exist, and IF, VBK, SVBK and IE; the clock
registers, live and latched, exist in a legal state exactly on an Mbc3 or Mbc30 with has-timer; nothing else exists, the
ROM image included. A raw write to a byte that does not exist changes nothing. From memory in canonical form a raw write
to one that exists is read back, cut to the bits the place stores (with 0 stored as 1 in SVBK: the model's choice, log
entry 18), and every other place, the ROM image, the CPU and the configuration are as before. -/
def Obligations.RawAccess : Prop :=
  (∀ (s : State) (l : Loc), rawRead s (.cell l) = (if (match l with
      | .vram _ _ => true
      | .wram _ _ => true
      | .oam off => decide (off.toNat < 160)
      | .hram off => decide (off.toNat < 127)
      | .io off => decide (off.toNat ∈ namedIo ∧ off.toNat ≠ 0x0F ∧ off.toNat ≠ 0x4F ∧ off.toNat ≠ 0x70)
      | .cartRam bank _ => decide (bank.toNat < s.cart.ramBankCount)
      | .rom _ => false) = true then some (cellByte s l) else none)) ∧
  (∀ s : State, rawRead s .ifReg = some (s.ifReg.setWidth 8) ∧ rawRead s .vbk = some (s.vbk.setWidth 8) ∧
    rawRead s .svbk = some (s.svbk.setWidth 8) ∧ rawRead s .ieReg = some s.ieReg) ∧
  (∀ (s : State) (r : ClockReg), s.legal = true →
    let timed := decide (s.mbc.kind = .mbc3 ∨ s.mbc.kind = .mbc30) && s.cart.hasTimer
    (rawRead s (.rtc r)).isSome = timed ∧ (rawRead s (.rtcLatched r)).isSome = timed) ∧
  (∀ (s : State) (p : RawPlace) (v : Byte), rawRead s p = none → rawWrite s p v = s) ∧
  (∀ (s : State) (p q : RawPlace) (v : Byte), s.mem.wf = true → rawRead s p ≠ none →
    rawRead (rawWrite s p v) p = some (match p with
      | .cell _ => v
      | .ifReg => BitVec.ofNat 8 (v.toNat % 32)
      | .vbk => BitVec.ofNat 8 (v.toNat % 2)
      | .svbk => if v.toNat % 8 = 0 then 1#8 else BitVec.ofNat 8 (v.toNat % 8)
      | .ieReg => v
      | .rtc r | .rtcLatched r => v &&& (match r with
        | .s | .m => 0x3F#8
        | .h => 0x1F#8
        | .dl => 0xFF#8
        | .dh => 0xC1#8)) ∧
    (q ≠ p → rawRead (rawWrite s p v) q = rawRead s q) ∧ (∀ j, cellByte (rawWrite s p v) (.rom j) = cellByte s (.rom j)) ∧
    rawWrite s p v = { s with
      mem := (rawWrite s p v).mem, mbc := (rawWrite s p v).mbc, ifReg := (rawWrite s p v).ifReg,
      ieReg := (rawWrite s p v).ieReg, svbk := (rawWrite s p v).svbk, vbk := (rawWrite s p v).vbk })
end

