-- ==== Sys2Proof/Laws/Bits.lean ====
section
/-!
SUPPORT. The small lemmas of the byte-order helpers.
-/
namespace Sys2Proof

theorem word16_toNat (h l : Byte) : (word16 h l).toNat = h.toNat * 256 + l.toNat := by
  have hl := l.isLt
  have hs : h.toNat <<< 8 = 2 ^ 8 * h.toNat := by rw [Nat.shiftLeft_eq, Nat.mul_comm]
  show (h ++ l : BitVec (8 + 8)).toNat = _
  rw [BitVec.toNat_append, hs, ← Nat.two_pow_add_eq_or_of_lt hl]
  omega

theorem hi8_toNat (w : Word) : (hi8 w).toNat = w.toNat / 256 := by
  have := w.isLt
  simp [hi8, Nat.shiftRight_eq_div_pow]
  omega

theorem lo8_toNat (w : Word) : (lo8 w).toNat = w.toNat % 256 := by simp [lo8]

@[simp] theorem hi8_word16 (h l : Byte) : hi8 (word16 h l) = h := by
  apply BitVec.eq_of_toNat_eq
  have := l.isLt
  rw [hi8_toNat, word16_toNat]
  omega

@[simp] theorem lo8_word16 (h l : Byte) : lo8 (word16 h l) = l := by
  apply BitVec.eq_of_toNat_eq
  have := l.isLt
  rw [lo8_toNat, word16_toNat]
  omega

@[simp] theorem word16_hi8_lo8 (w : Word) : word16 (hi8 w) (lo8 w) = w := by
  apply BitVec.eq_of_toNat_eq
  rw [word16_toNat, hi8_toNat, lo8_toNat]
  omega

end Sys2Proof
end

