-- ==== Sys2Proof/Laws/Memory.lean ====
section
/-!
SUPPORT. The storage: reading after writing, the canonical form, and that different cells have different keys.
-/
namespace Sys2Proof.Machine

theorem Memory.read_cons (k : Nat) (v : Byte) (rest : Memory) (j : Nat)
    (h : rest.read k = Memory.unlisted k) :
    (Memory.cons k v rest).read j = if j = k then v else rest.read j := by
  unfold Memory.cons
  split
  · rename_i hv
    split
    · rename_i hj; rw [hj, h, hv]
    · rfl
  · by_cases hj : j = k
    · subst hj; simp [Memory.read]
    · simp [Memory.read, hj, Ne.symm hj]

/-- A list in canonical form from `lo` on has nothing listed below `lo`. -/
theorem Memory.read_below {lo : Nat} {m : Memory} (h : Memory.wfFrom lo m = true) {k : Nat} (hk : k < lo) :
    m.read k = Memory.unlisted k := by
  induction m generalizing lo with
  | nil => rfl
  | cons c rest ih =>
    obtain ⟨j, w⟩ := c
    simp only [Memory.wfFrom, Bool.and_eq_true, decide_eq_true_eq] at h
    obtain ⟨⟨hlo, -⟩, hrest⟩ := h
    have hne : j ≠ k := by omega
    simp only [Memory.read, hne, if_false]
    exact ih hrest (by omega)

/-- Reading after a write: the byte written at its key, what was there everywhere else. -/
theorem Memory.read_write_from {lo : Nat} {m : Memory} (h : Memory.wfFrom lo m = true) (k : Nat) (v : Byte) (j : Nat) :
    (m.write k v).read j = if j = k then v else m.read j := by
  induction m generalizing lo with
  | nil =>
    show (Memory.cons k v []).read j = _
    exact Memory.read_cons k v [] j rfl
  | cons c rest ih =>
    obtain ⟨i, w⟩ := c
    have h' := h
    simp only [Memory.wfFrom, Bool.and_eq_true, decide_eq_true_eq] at h
    obtain ⟨⟨hlo, hw⟩, hrest⟩ := h
    have hall : Memory.wfFrom i ((i, w) :: rest) = true := by
      simp only [Memory.wfFrom, Bool.and_eq_true, decide_eq_true_eq]
      exact ⟨⟨Nat.le_refl i, hw⟩, hrest⟩
    simp only [Memory.write]
    split
    · rename_i hk
      exact Memory.read_cons k v _ j (Memory.read_below hall hk)
    · split
      · rename_i hk
        subst hk
        rw [Memory.read_cons k v rest j (Memory.read_below hrest (Nat.lt_succ_self k))]
        by_cases hj : j = k
        · simp [hj]
        · simp [hj, Memory.read, Ne.symm hj]
      · rename_i hk hk'
        simp only [Memory.read]
        rw [ih hrest]
        by_cases hij : i = j
        · subst hij
          have : i ≠ k := fun e => hk' e.symm
          simp [this]
        · simp [hij]

theorem Memory.read_write {m : Memory} (h : m.wf = true) (k : Nat) (v : Byte) (j : Nat) :
    (m.write k v).read j = if j = k then v else m.read j := Memory.read_write_from h k v j

@[simp] theorem Memory.read_write_same {m : Memory} (h : m.wf = true) (k : Nat) (v : Byte) :
    (m.write k v).read k = v := by simp [Memory.read_write h]

theorem Memory.read_write_other {m : Memory} (h : m.wf = true) {k j : Nat} (v : Byte) (hj : j ≠ k) :
    (m.write k v).read j = m.read j := by simp [Memory.read_write h, hj]

theorem Memory.wfFrom_mono {lo lo' : Nat} {m : Memory} (h : Memory.wfFrom lo m = true) (hl : lo' ≤ lo) :
    Memory.wfFrom lo' m = true := by
  cases m with
  | nil => rfl
  | cons c rest =>
    simp only [Memory.wfFrom, Bool.and_eq_true, decide_eq_true_eq] at h ⊢
    exact ⟨⟨by omega, h.1.2⟩, h.2⟩

theorem Memory.wfFrom_cons {lo k : Nat} {v : Byte} {rest : Memory} (hk : lo ≤ k)
    (h : Memory.wfFrom (k + 1) rest = true) : Memory.wfFrom lo (Memory.cons k v rest) = true := by
  unfold Memory.cons
  split
  · exact Memory.wfFrom_mono h (by omega)
  · rename_i hv
    simp only [Memory.wfFrom, Bool.and_eq_true, decide_eq_true_eq]
    exact ⟨⟨hk, hv⟩, h⟩

theorem Memory.wfFrom_write {lo : Nat} {m : Memory} (h : Memory.wfFrom lo m = true) {k : Nat} (hk : lo ≤ k) (v : Byte) :
    Memory.wfFrom lo (m.write k v) = true := by
  induction m generalizing lo with
  | nil => exact Memory.wfFrom_cons hk rfl
  | cons c rest ih =>
    obtain ⟨i, w⟩ := c
    simp only [Memory.wfFrom, Bool.and_eq_true, decide_eq_true_eq] at h
    obtain ⟨⟨hlo, hw⟩, hrest⟩ := h
    simp only [Memory.write]
    split
    · rename_i hki
      apply Memory.wfFrom_cons hk
      simp only [Memory.wfFrom, Bool.and_eq_true, decide_eq_true_eq]
      exact ⟨⟨hki, hw⟩, hrest⟩
    · split
      · rename_i hki
        subst hki
        exact Memory.wfFrom_cons hk hrest
      · rename_i hki hki'
        simp only [Memory.wfFrom, Bool.and_eq_true, decide_eq_true_eq]
        exact ⟨⟨hlo, hw⟩, ih hrest (by omega)⟩

/-- A write keeps the canonical form. -/
theorem Memory.wf_write {m : Memory} (h : m.wf = true) (k : Nat) (v : Byte) : (m.write k v).wf = true :=
  Memory.wfFrom_write h (Nat.zero_le k) v

theorem Memory.wfFrom_keepCartridge {lo : Nat} {m : Memory} (h : Memory.wfFrom lo m = true) :
    Memory.wfFrom lo m.keepCartridge = true := by
  induction m generalizing lo with
  | nil => rfl
  | cons c rest ih =>
    obtain ⟨k, v⟩ := c
    simp only [Memory.wfFrom, Bool.and_eq_true, decide_eq_true_eq] at h
    obtain ⟨⟨hlo, hv⟩, hrest⟩ := h
    simp only [Memory.keepCartridge]
    split
    · exact Memory.wfFrom_mono (ih hrest) (by omega)
    · simp only [Memory.wfFrom, Bool.and_eq_true, decide_eq_true_eq]
      exact ⟨⟨hlo, hv⟩, ih hrest⟩

/-- A system reset keeps the canonical form. -/
theorem Memory.wf_keepCartridge {m : Memory} (h : m.wf = true) : m.keepCartridge.wf = true :=
  Memory.wfFrom_keepCartridge h

/-- Equal memories are equal data: two canonical lists that read alike everywhere are the same list. -/
theorem Memory.eq_of_read_from {lo : Nat} {m m' : Memory} (h : Memory.wfFrom lo m = true)
    (h' : Memory.wfFrom lo m' = true) (hr : ∀ k, m.read k = m'.read k) : m = m' := by
  induction m generalizing lo m' with
  | nil =>
    cases m' with
    | nil => rfl
    | cons c rest =>
      obtain ⟨k, v⟩ := c
      simp only [Memory.wfFrom, Bool.and_eq_true, decide_eq_true_eq] at h'
      exact absurd (by simpa [Memory.read] using (hr k).symm) h'.1.2
  | cons c rest ih =>
    obtain ⟨k, v⟩ := c
    have hA := h
    simp only [Memory.wfFrom, Bool.and_eq_true, decide_eq_true_eq] at h
    obtain ⟨⟨hlo, hv⟩, hrest⟩ := h
    cases m' with
    | nil => exact absurd (by simpa [Memory.read] using hr k) hv
    | cons c' rest' =>
      obtain ⟨k', v'⟩ := c'
      have hB := h'
      simp only [Memory.wfFrom, Bool.and_eq_true, decide_eq_true_eq] at h'
      obtain ⟨⟨hlo', hv'⟩, hrest'⟩ := h'
      have hkk : k = k' := by
        rcases Nat.lt_trichotomy k k' with hlt | heq | hgt
        · have hb := hr k
          have hne : k' ≠ k := by omega
          simp only [Memory.read, hne, if_true, if_false] at hb
          rw [Memory.read_below hrest' (by omega)] at hb
          exact absurd hb hv
        · exact heq
        · have hb := hr k'
          have hne : k ≠ k' := by omega
          simp only [Memory.read, hne, if_true, if_false] at hb
          rw [Memory.read_below hrest (by omega)] at hb
          exact absurd hb.symm hv'
      subst hkk
      have hvv : v = v' := by simpa [Memory.read] using hr k
      subst hvv
      congr 1
      refine ih hrest hrest' (fun j => ?_)
      by_cases hj : k = j
      · subst hj
        rw [Memory.read_below hrest (Nat.lt_succ_self k), Memory.read_below hrest' (Nat.lt_succ_self k)]
      · simpa [Memory.read, hj] using hr j

theorem Memory.eq_of_read {m m' : Memory} (h : m.wf = true) (h' : m'.wf = true)
    (hr : ∀ k, m.read k = m'.read k) : m = m' := Memory.eq_of_read_from h h' hr

/-- Different cells have different keys. -/
theorem Loc.key_injective {x y : Loc} (h : x.key = y.key) : x = y := by
  cases x <;> cases y <;> simp only [Loc.key, ioBase, cartRamBase, romBase] at h <;>
    (congr 1 <;> first | (apply BitVec.eq_of_toNat_eq; omega) | omega)

end Sys2Proof.Machine
end

