-- ==== Sys2Proof/Laws/State.lean ====
section
/-!
SUPPORT. One lemma per field per update of the state, so that no later proof unfolds a record update.
-/
namespace Sys2Proof.Machine

/-! ### retire -/

@[simp] theorem State.retire_a (s : State) (len : Word) (cost : Nat) : (s.retire len cost).a = s.a := rfl
@[simp] theorem State.retire_b (s : State) (len : Word) (cost : Nat) : (s.retire len cost).b = s.b := rfl
@[simp] theorem State.retire_c (s : State) (len : Word) (cost : Nat) : (s.retire len cost).c = s.c := rfl
@[simp] theorem State.retire_d (s : State) (len : Word) (cost : Nat) : (s.retire len cost).d = s.d := rfl
@[simp] theorem State.retire_e (s : State) (len : Word) (cost : Nat) : (s.retire len cost).e = s.e := rfl
@[simp] theorem State.retire_h (s : State) (len : Word) (cost : Nat) : (s.retire len cost).h = s.h := rfl
@[simp] theorem State.retire_l (s : State) (len : Word) (cost : Nat) : (s.retire len cost).l = s.l := rfl
@[simp] theorem State.retire_flags (s : State) (len : Word) (cost : Nat) : (s.retire len cost).flags = s.flags := rfl
@[simp] theorem State.retire_pc (s : State) (len : Word) (cost : Nat) : (s.retire len cost).pc = s.pc + len := rfl
@[simp] theorem State.retire_sp (s : State) (len : Word) (cost : Nat) : (s.retire len cost).sp = s.sp := rfl
@[simp] theorem State.retire_ime (s : State) (len : Word) (cost : Nat) : (s.retire len cost).ime = s.ime := rfl
@[simp] theorem State.retire_eiPending (s : State) (len : Word) (cost : Nat) : (s.retire len cost).eiPending = s.eiPending := rfl
@[simp] theorem State.retire_halted (s : State) (len : Word) (cost : Nat) : (s.retire len cost).halted = s.halted := rfl
@[simp] theorem State.retire_stopped (s : State) (len : Word) (cost : Nat) : (s.retire len cost).stopped = s.stopped := rfl
@[simp] theorem State.retire_fault (s : State) (len : Word) (cost : Nat) : (s.retire len cost).fault = s.fault := rfl
@[simp] theorem State.retire_cycles (s : State) (len : Word) (cost : Nat) : (s.retire len cost).cycles = s.cycles + cost := rfl
@[simp] theorem State.retire_ifReg (s : State) (len : Word) (cost : Nat) : (s.retire len cost).ifReg = s.ifReg := rfl
@[simp] theorem State.retire_ieReg (s : State) (len : Word) (cost : Nat) : (s.retire len cost).ieReg = s.ieReg := rfl
@[simp] theorem State.retire_svbk (s : State) (len : Word) (cost : Nat) : (s.retire len cost).svbk = s.svbk := rfl
@[simp] theorem State.retire_vbk (s : State) (len : Word) (cost : Nat) : (s.retire len cost).vbk = s.vbk := rfl
@[simp] theorem State.retire_mbc (s : State) (len : Word) (cost : Nat) : (s.retire len cost).mbc = s.mbc := rfl
@[simp] theorem State.retire_cart (s : State) (len : Word) (cost : Nat) : (s.retire len cost).cart = s.cart := rfl
@[simp] theorem State.retire_cgbMode (s : State) (len : Word) (cost : Nat) : (s.retire len cost).cgbMode = s.cgbMode := rfl
@[simp] theorem State.retire_eiDelay (s : State) (len : Word) (cost : Nat) : (s.retire len cost).eiDelay = s.eiDelay := rfl
@[simp] theorem State.retire_mem (s : State) (len : Word) (cost : Nat) : (s.retire len cost).mem = s.mem := rfl

/-! ### jump -/

@[simp] theorem State.jump_a (s : State) (target : Word) : (s.jump target).a = s.a := rfl
@[simp] theorem State.jump_b (s : State) (target : Word) : (s.jump target).b = s.b := rfl
@[simp] theorem State.jump_c (s : State) (target : Word) : (s.jump target).c = s.c := rfl
@[simp] theorem State.jump_d (s : State) (target : Word) : (s.jump target).d = s.d := rfl
@[simp] theorem State.jump_e (s : State) (target : Word) : (s.jump target).e = s.e := rfl
@[simp] theorem State.jump_h (s : State) (target : Word) : (s.jump target).h = s.h := rfl
@[simp] theorem State.jump_l (s : State) (target : Word) : (s.jump target).l = s.l := rfl
@[simp] theorem State.jump_flags (s : State) (target : Word) : (s.jump target).flags = s.flags := rfl
@[simp] theorem State.jump_pc (s : State) (target : Word) : (s.jump target).pc = target := rfl
@[simp] theorem State.jump_sp (s : State) (target : Word) : (s.jump target).sp = s.sp := rfl
@[simp] theorem State.jump_ime (s : State) (target : Word) : (s.jump target).ime = s.ime := rfl
@[simp] theorem State.jump_eiPending (s : State) (target : Word) : (s.jump target).eiPending = s.eiPending := rfl
@[simp] theorem State.jump_halted (s : State) (target : Word) : (s.jump target).halted = s.halted := rfl
@[simp] theorem State.jump_stopped (s : State) (target : Word) : (s.jump target).stopped = s.stopped := rfl
@[simp] theorem State.jump_fault (s : State) (target : Word) : (s.jump target).fault = s.fault := rfl
@[simp] theorem State.jump_cycles (s : State) (target : Word) : (s.jump target).cycles = s.cycles := rfl
@[simp] theorem State.jump_ifReg (s : State) (target : Word) : (s.jump target).ifReg = s.ifReg := rfl
@[simp] theorem State.jump_ieReg (s : State) (target : Word) : (s.jump target).ieReg = s.ieReg := rfl
@[simp] theorem State.jump_svbk (s : State) (target : Word) : (s.jump target).svbk = s.svbk := rfl
@[simp] theorem State.jump_vbk (s : State) (target : Word) : (s.jump target).vbk = s.vbk := rfl
@[simp] theorem State.jump_mbc (s : State) (target : Word) : (s.jump target).mbc = s.mbc := rfl
@[simp] theorem State.jump_cart (s : State) (target : Word) : (s.jump target).cart = s.cart := rfl
@[simp] theorem State.jump_cgbMode (s : State) (target : Word) : (s.jump target).cgbMode = s.cgbMode := rfl
@[simp] theorem State.jump_eiDelay (s : State) (target : Word) : (s.jump target).eiDelay = s.eiDelay := rfl
@[simp] theorem State.jump_mem (s : State) (target : Word) : (s.jump target).mem = s.mem := rfl

/-! ### setFlags -/

@[simp] theorem State.setFlags_a (s : State) (f : Flags) : (s.setFlags f).a = s.a := rfl
@[simp] theorem State.setFlags_b (s : State) (f : Flags) : (s.setFlags f).b = s.b := rfl
@[simp] theorem State.setFlags_c (s : State) (f : Flags) : (s.setFlags f).c = s.c := rfl
@[simp] theorem State.setFlags_d (s : State) (f : Flags) : (s.setFlags f).d = s.d := rfl
@[simp] theorem State.setFlags_e (s : State) (f : Flags) : (s.setFlags f).e = s.e := rfl
@[simp] theorem State.setFlags_h (s : State) (f : Flags) : (s.setFlags f).h = s.h := rfl
@[simp] theorem State.setFlags_l (s : State) (f : Flags) : (s.setFlags f).l = s.l := rfl
@[simp] theorem State.setFlags_flags (s : State) (f : Flags) : (s.setFlags f).flags = f := rfl
@[simp] theorem State.setFlags_pc (s : State) (f : Flags) : (s.setFlags f).pc = s.pc := rfl
@[simp] theorem State.setFlags_sp (s : State) (f : Flags) : (s.setFlags f).sp = s.sp := rfl
@[simp] theorem State.setFlags_ime (s : State) (f : Flags) : (s.setFlags f).ime = s.ime := rfl
@[simp] theorem State.setFlags_eiPending (s : State) (f : Flags) : (s.setFlags f).eiPending = s.eiPending := rfl
@[simp] theorem State.setFlags_halted (s : State) (f : Flags) : (s.setFlags f).halted = s.halted := rfl
@[simp] theorem State.setFlags_stopped (s : State) (f : Flags) : (s.setFlags f).stopped = s.stopped := rfl
@[simp] theorem State.setFlags_fault (s : State) (f : Flags) : (s.setFlags f).fault = s.fault := rfl
@[simp] theorem State.setFlags_cycles (s : State) (f : Flags) : (s.setFlags f).cycles = s.cycles := rfl
@[simp] theorem State.setFlags_ifReg (s : State) (f : Flags) : (s.setFlags f).ifReg = s.ifReg := rfl
@[simp] theorem State.setFlags_ieReg (s : State) (f : Flags) : (s.setFlags f).ieReg = s.ieReg := rfl
@[simp] theorem State.setFlags_svbk (s : State) (f : Flags) : (s.setFlags f).svbk = s.svbk := rfl
@[simp] theorem State.setFlags_vbk (s : State) (f : Flags) : (s.setFlags f).vbk = s.vbk := rfl
@[simp] theorem State.setFlags_mbc (s : State) (f : Flags) : (s.setFlags f).mbc = s.mbc := rfl
@[simp] theorem State.setFlags_cart (s : State) (f : Flags) : (s.setFlags f).cart = s.cart := rfl
@[simp] theorem State.setFlags_cgbMode (s : State) (f : Flags) : (s.setFlags f).cgbMode = s.cgbMode := rfl
@[simp] theorem State.setFlags_eiDelay (s : State) (f : Flags) : (s.setFlags f).eiDelay = s.eiDelay := rfl
@[simp] theorem State.setFlags_mem (s : State) (f : Flags) : (s.setFlags f).mem = s.mem := rfl

/-! ### setHl -/

@[simp] theorem State.setHl_a (s : State) (v : Word) : (s.setHl v).a = s.a := rfl
@[simp] theorem State.setHl_b (s : State) (v : Word) : (s.setHl v).b = s.b := rfl
@[simp] theorem State.setHl_c (s : State) (v : Word) : (s.setHl v).c = s.c := rfl
@[simp] theorem State.setHl_d (s : State) (v : Word) : (s.setHl v).d = s.d := rfl
@[simp] theorem State.setHl_e (s : State) (v : Word) : (s.setHl v).e = s.e := rfl
@[simp] theorem State.setHl_h (s : State) (v : Word) : (s.setHl v).h = hi8 v := rfl
@[simp] theorem State.setHl_l (s : State) (v : Word) : (s.setHl v).l = lo8 v := rfl
@[simp] theorem State.setHl_flags (s : State) (v : Word) : (s.setHl v).flags = s.flags := rfl
@[simp] theorem State.setHl_pc (s : State) (v : Word) : (s.setHl v).pc = s.pc := rfl
@[simp] theorem State.setHl_sp (s : State) (v : Word) : (s.setHl v).sp = s.sp := rfl
@[simp] theorem State.setHl_ime (s : State) (v : Word) : (s.setHl v).ime = s.ime := rfl
@[simp] theorem State.setHl_eiPending (s : State) (v : Word) : (s.setHl v).eiPending = s.eiPending := rfl
@[simp] theorem State.setHl_halted (s : State) (v : Word) : (s.setHl v).halted = s.halted := rfl
@[simp] theorem State.setHl_stopped (s : State) (v : Word) : (s.setHl v).stopped = s.stopped := rfl
@[simp] theorem State.setHl_fault (s : State) (v : Word) : (s.setHl v).fault = s.fault := rfl
@[simp] theorem State.setHl_cycles (s : State) (v : Word) : (s.setHl v).cycles = s.cycles := rfl
@[simp] theorem State.setHl_ifReg (s : State) (v : Word) : (s.setHl v).ifReg = s.ifReg := rfl
@[simp] theorem State.setHl_ieReg (s : State) (v : Word) : (s.setHl v).ieReg = s.ieReg := rfl
@[simp] theorem State.setHl_svbk (s : State) (v : Word) : (s.setHl v).svbk = s.svbk := rfl
@[simp] theorem State.setHl_vbk (s : State) (v : Word) : (s.setHl v).vbk = s.vbk := rfl
@[simp] theorem State.setHl_mbc (s : State) (v : Word) : (s.setHl v).mbc = s.mbc := rfl
@[simp] theorem State.setHl_cart (s : State) (v : Word) : (s.setHl v).cart = s.cart := rfl
@[simp] theorem State.setHl_cgbMode (s : State) (v : Word) : (s.setHl v).cgbMode = s.cgbMode := rfl
@[simp] theorem State.setHl_eiDelay (s : State) (v : Word) : (s.setHl v).eiDelay = s.eiDelay := rfl
@[simp] theorem State.setHl_mem (s : State) (v : Word) : (s.setHl v).mem = s.mem := rfl

/-! ### poke -/

@[simp] theorem State.poke_a (s : State) (x : Loc) (v : Byte) : (s.poke x v).a = s.a := rfl
@[simp] theorem State.poke_b (s : State) (x : Loc) (v : Byte) : (s.poke x v).b = s.b := rfl
@[simp] theorem State.poke_c (s : State) (x : Loc) (v : Byte) : (s.poke x v).c = s.c := rfl
@[simp] theorem State.poke_d (s : State) (x : Loc) (v : Byte) : (s.poke x v).d = s.d := rfl
@[simp] theorem State.poke_e (s : State) (x : Loc) (v : Byte) : (s.poke x v).e = s.e := rfl
@[simp] theorem State.poke_h (s : State) (x : Loc) (v : Byte) : (s.poke x v).h = s.h := rfl
@[simp] theorem State.poke_l (s : State) (x : Loc) (v : Byte) : (s.poke x v).l = s.l := rfl
@[simp] theorem State.poke_flags (s : State) (x : Loc) (v : Byte) : (s.poke x v).flags = s.flags := rfl
@[simp] theorem State.poke_pc (s : State) (x : Loc) (v : Byte) : (s.poke x v).pc = s.pc := rfl
@[simp] theorem State.poke_sp (s : State) (x : Loc) (v : Byte) : (s.poke x v).sp = s.sp := rfl
@[simp] theorem State.poke_ime (s : State) (x : Loc) (v : Byte) : (s.poke x v).ime = s.ime := rfl
@[simp] theorem State.poke_eiPending (s : State) (x : Loc) (v : Byte) : (s.poke x v).eiPending = s.eiPending := rfl
@[simp] theorem State.poke_halted (s : State) (x : Loc) (v : Byte) : (s.poke x v).halted = s.halted := rfl
@[simp] theorem State.poke_stopped (s : State) (x : Loc) (v : Byte) : (s.poke x v).stopped = s.stopped := rfl
@[simp] theorem State.poke_fault (s : State) (x : Loc) (v : Byte) : (s.poke x v).fault = s.fault := rfl
@[simp] theorem State.poke_cycles (s : State) (x : Loc) (v : Byte) : (s.poke x v).cycles = s.cycles := rfl
@[simp] theorem State.poke_ifReg (s : State) (x : Loc) (v : Byte) : (s.poke x v).ifReg = s.ifReg := rfl
@[simp] theorem State.poke_ieReg (s : State) (x : Loc) (v : Byte) : (s.poke x v).ieReg = s.ieReg := rfl
@[simp] theorem State.poke_svbk (s : State) (x : Loc) (v : Byte) : (s.poke x v).svbk = s.svbk := rfl
@[simp] theorem State.poke_vbk (s : State) (x : Loc) (v : Byte) : (s.poke x v).vbk = s.vbk := rfl
@[simp] theorem State.poke_mbc (s : State) (x : Loc) (v : Byte) : (s.poke x v).mbc = s.mbc := rfl
@[simp] theorem State.poke_cart (s : State) (x : Loc) (v : Byte) : (s.poke x v).cart = s.cart := rfl
@[simp] theorem State.poke_cgbMode (s : State) (x : Loc) (v : Byte) : (s.poke x v).cgbMode = s.cgbMode := rfl
@[simp] theorem State.poke_eiDelay (s : State) (x : Loc) (v : Byte) : (s.poke x v).eiDelay = s.eiDelay := rfl
@[simp] theorem State.poke_mem (s : State) (x : Loc) (v : Byte) : (s.poke x v).mem = s.mem.write x.key v := rfl

/-! ### setReg: the fields it never touches -/

@[simp] theorem State.setReg_flags (s : State) (r : Reg8) (v : Byte) : (s.setReg r v).flags = s.flags := by cases r <;> rfl
@[simp] theorem State.setReg_pc (s : State) (r : Reg8) (v : Byte) : (s.setReg r v).pc = s.pc := by cases r <;> rfl
@[simp] theorem State.setReg_sp (s : State) (r : Reg8) (v : Byte) : (s.setReg r v).sp = s.sp := by cases r <;> rfl
@[simp] theorem State.setReg_ime (s : State) (r : Reg8) (v : Byte) : (s.setReg r v).ime = s.ime := by cases r <;> rfl
@[simp] theorem State.setReg_eiPending (s : State) (r : Reg8) (v : Byte) : (s.setReg r v).eiPending = s.eiPending := by cases r <;> rfl
@[simp] theorem State.setReg_halted (s : State) (r : Reg8) (v : Byte) : (s.setReg r v).halted = s.halted := by cases r <;> rfl
@[simp] theorem State.setReg_stopped (s : State) (r : Reg8) (v : Byte) : (s.setReg r v).stopped = s.stopped := by cases r <;> rfl
@[simp] theorem State.setReg_fault (s : State) (r : Reg8) (v : Byte) : (s.setReg r v).fault = s.fault := by cases r <;> rfl
@[simp] theorem State.setReg_cycles (s : State) (r : Reg8) (v : Byte) : (s.setReg r v).cycles = s.cycles := by cases r <;> rfl
@[simp] theorem State.setReg_ifReg (s : State) (r : Reg8) (v : Byte) : (s.setReg r v).ifReg = s.ifReg := by cases r <;> rfl
@[simp] theorem State.setReg_ieReg (s : State) (r : Reg8) (v : Byte) : (s.setReg r v).ieReg = s.ieReg := by cases r <;> rfl
@[simp] theorem State.setReg_svbk (s : State) (r : Reg8) (v : Byte) : (s.setReg r v).svbk = s.svbk := by cases r <;> rfl
@[simp] theorem State.setReg_vbk (s : State) (r : Reg8) (v : Byte) : (s.setReg r v).vbk = s.vbk := by cases r <;> rfl
@[simp] theorem State.setReg_mbc (s : State) (r : Reg8) (v : Byte) : (s.setReg r v).mbc = s.mbc := by cases r <;> rfl
@[simp] theorem State.setReg_cart (s : State) (r : Reg8) (v : Byte) : (s.setReg r v).cart = s.cart := by cases r <;> rfl
@[simp] theorem State.setReg_cgbMode (s : State) (r : Reg8) (v : Byte) : (s.setReg r v).cgbMode = s.cgbMode := by cases r <;> rfl
@[simp] theorem State.setReg_eiDelay (s : State) (r : Reg8) (v : Byte) : (s.setReg r v).eiDelay = s.eiDelay := by cases r <;> rfl
@[simp] theorem State.setReg_mem (s : State) (r : Reg8) (v : Byte) : (s.setReg r v).mem = s.mem := by cases r <;> rfl

/-! ### setPair: the fields it never touches -/

@[simp] theorem State.setPair_a (s : State) (p : Pair) (v : Word) : (s.setPair p v).a = s.a := by cases p <;> rfl
@[simp] theorem State.setPair_flags (s : State) (p : Pair) (v : Word) : (s.setPair p v).flags = s.flags := by cases p <;> rfl
@[simp] theorem State.setPair_pc (s : State) (p : Pair) (v : Word) : (s.setPair p v).pc = s.pc := by cases p <;> rfl
@[simp] theorem State.setPair_ime (s : State) (p : Pair) (v : Word) : (s.setPair p v).ime = s.ime := by cases p <;> rfl
@[simp] theorem State.setPair_eiPending (s : State) (p : Pair) (v : Word) : (s.setPair p v).eiPending = s.eiPending := by cases p <;> rfl
@[simp] theorem State.setPair_halted (s : State) (p : Pair) (v : Word) : (s.setPair p v).halted = s.halted := by cases p <;> rfl
@[simp] theorem State.setPair_stopped (s : State) (p : Pair) (v : Word) : (s.setPair p v).stopped = s.stopped := by cases p <;> rfl
@[simp] theorem State.setPair_fault (s : State) (p : Pair) (v : Word) : (s.setPair p v).fault = s.fault := by cases p <;> rfl
@[simp] theorem State.setPair_cycles (s : State) (p : Pair) (v : Word) : (s.setPair p v).cycles = s.cycles := by cases p <;> rfl
@[simp] theorem State.setPair_ifReg (s : State) (p : Pair) (v : Word) : (s.setPair p v).ifReg = s.ifReg := by cases p <;> rfl
@[simp] theorem State.setPair_ieReg (s : State) (p : Pair) (v : Word) : (s.setPair p v).ieReg = s.ieReg := by cases p <;> rfl
@[simp] theorem State.setPair_svbk (s : State) (p : Pair) (v : Word) : (s.setPair p v).svbk = s.svbk := by cases p <;> rfl
@[simp] theorem State.setPair_vbk (s : State) (p : Pair) (v : Word) : (s.setPair p v).vbk = s.vbk := by cases p <;> rfl
@[simp] theorem State.setPair_mbc (s : State) (p : Pair) (v : Word) : (s.setPair p v).mbc = s.mbc := by cases p <;> rfl
@[simp] theorem State.setPair_cart (s : State) (p : Pair) (v : Word) : (s.setPair p v).cart = s.cart := by cases p <;> rfl
@[simp] theorem State.setPair_cgbMode (s : State) (p : Pair) (v : Word) : (s.setPair p v).cgbMode = s.cgbMode := by cases p <;> rfl
@[simp] theorem State.setPair_eiDelay (s : State) (p : Pair) (v : Word) : (s.setPair p v).eiDelay = s.eiDelay := by cases p <;> rfl
@[simp] theorem State.setPair_mem (s : State) (p : Pair) (v : Word) : (s.setPair p v).mem = s.mem := by cases p <;> rfl

/-! ### setStackPair: the fields it never touches -/

@[simp] theorem State.setStackPair_pc (s : State) (q : StackPair) (v : Word) : (s.setStackPair q v).pc = s.pc := by cases q <;> rfl
@[simp] theorem State.setStackPair_sp (s : State) (q : StackPair) (v : Word) : (s.setStackPair q v).sp = s.sp := by cases q <;> rfl
@[simp] theorem State.setStackPair_ime (s : State) (q : StackPair) (v : Word) : (s.setStackPair q v).ime = s.ime := by cases q <;> rfl
@[simp] theorem State.setStackPair_eiPending (s : State) (q : StackPair) (v : Word) : (s.setStackPair q v).eiPending = s.eiPending := by cases q <;> rfl
@[simp] theorem State.setStackPair_halted (s : State) (q : StackPair) (v : Word) : (s.setStackPair q v).halted = s.halted := by cases q <;> rfl
@[simp] theorem State.setStackPair_stopped (s : State) (q : StackPair) (v : Word) : (s.setStackPair q v).stopped = s.stopped := by cases q <;> rfl
@[simp] theorem State.setStackPair_fault (s : State) (q : StackPair) (v : Word) : (s.setStackPair q v).fault = s.fault := by cases q <;> rfl
@[simp] theorem State.setStackPair_cycles (s : State) (q : StackPair) (v : Word) : (s.setStackPair q v).cycles = s.cycles := by cases q <;> rfl
@[simp] theorem State.setStackPair_ifReg (s : State) (q : StackPair) (v : Word) : (s.setStackPair q v).ifReg = s.ifReg := by cases q <;> rfl
@[simp] theorem State.setStackPair_ieReg (s : State) (q : StackPair) (v : Word) : (s.setStackPair q v).ieReg = s.ieReg := by cases q <;> rfl
@[simp] theorem State.setStackPair_svbk (s : State) (q : StackPair) (v : Word) : (s.setStackPair q v).svbk = s.svbk := by cases q <;> rfl
@[simp] theorem State.setStackPair_vbk (s : State) (q : StackPair) (v : Word) : (s.setStackPair q v).vbk = s.vbk := by cases q <;> rfl
@[simp] theorem State.setStackPair_mbc (s : State) (q : StackPair) (v : Word) : (s.setStackPair q v).mbc = s.mbc := by cases q <;> rfl
@[simp] theorem State.setStackPair_cart (s : State) (q : StackPair) (v : Word) : (s.setStackPair q v).cart = s.cart := by cases q <;> rfl
@[simp] theorem State.setStackPair_cgbMode (s : State) (q : StackPair) (v : Word) : (s.setStackPair q v).cgbMode = s.cgbMode := by cases q <;> rfl
@[simp] theorem State.setStackPair_eiDelay (s : State) (q : StackPair) (v : Word) : (s.setStackPair q v).eiDelay = s.eiDelay := by cases q <;> rfl
@[simp] theorem State.setStackPair_mem (s : State) (q : StackPair) (v : Word) : (s.setStackPair q v).mem = s.mem := by cases q <;> rfl

/-! ### Registers through their accessors -/

theorem State.getReg_setReg (s : State) (r r' : Reg8) (v : Byte) :
    (s.setReg r v).getReg r' = if r' = r then v else s.getReg r' := by
  cases r <;> cases r' <;> rfl

@[simp] theorem State.getReg_retire (s : State) (len : Word) (cost : Nat) (r : Reg8) :
    (s.retire len cost).getReg r = s.getReg r := by cases r <;> rfl

@[simp] theorem State.getReg_setFlags (s : State) (f : Flags) (r : Reg8) : (s.setFlags f).getReg r = s.getReg r := by
  cases r <;> rfl

@[simp] theorem State.hl_retire (s : State) (len : Word) (cost : Nat) : (s.retire len cost).hl = s.hl := rfl

@[simp] theorem State.hl_setHl (s : State) (v : Word) : (s.setHl v).hl = v := word16_hi8_lo8 v

theorem State.getPair_setPair (s : State) (p : Pair) (v : Word) : (s.setPair p v).getPair p = v := by
  cases p
  · exact word16_hi8_lo8 v
  · exact word16_hi8_lo8 v
  · exact word16_hi8_lo8 v
  · rfl

/-- F keeps its four flags through its byte (spec 10 R24). -/
@[simp] theorem Flags.ofByte_toByte (f : Flags) : Flags.ofByte f.toByte = f := by
  obtain ⟨z, n, h, c⟩ := f
  cases z <;> cases n <;> cases h <;> cases c <;> rfl

end Sys2Proof.Machine
end

