-- ==== Sys2Proof/Laws/Bus.lean ====
section
/-!
SUPPORT. What the bus can do: a read changes nothing by its type; a write stores one cell, or changes one register or
the controller's latches, or nothing.
-/
namespace Sys2Proof.Machine

/-! ### A write keeps every field but those of the bus -/

theorem mbcWriteRam_cases (s : State) (a : Word) (b : Byte) :
    (mbcRamTarget s.cart s.mbc = .none ∧ mbcWriteRam s a b = s) ∨
    (∃ n, mbcRamTarget s.cart s.mbc = .bank n ∧ mbcWriteRam s a b = s.poke (.cartRam n (a.setWidth 13)) b) ∨
    (∃ r, mbcRamTarget s.cart s.mbc = .clock r ∧ mbcWriteRam s a b = { s with mbc := mbcWriteClock s.mbc r b }) := by
  unfold mbcWriteRam
  cases h : mbcRamTarget s.cart s.mbc with
  | none => exact .inl ⟨rfl, rfl⟩
  | bank n => exact .inr (.inl ⟨n, rfl, rfl⟩)
  | clock r => exact .inr (.inr ⟨r, rfl, rfl⟩)

theorem ite_ne {α : Type} {p : Prop} [Decidable p] {t e x : α} (ht : t ≠ x) (he : e ≠ x) :
    (if p then t else e) ≠ x := by split <;> assumption

theorem busTarget_ne_rom (s : State) (a : Word) (j : Nat) : busTarget s a ≠ .cell (.rom j) := by
  unfold busTarget wramTarget ioTarget
  dsimp only
  repeat' apply ite_ne
  all_goals (intro h; cases h)

/-- Everything a write can do. -/
theorem memWrite_cases (s : State) (a : Word) (b : Byte) :
    (storeCell s a = none ∧ memWrite s a b = s) ∨
    (∃ x, storeCell s a = some x ∧ (∀ j, x ≠ .rom j) ∧ memWrite s a b = s.poke x b) ∨
    (storeCell s a = none ∧ ∃ m, memWrite s a b = { s with mbc := m } ∧
      (m = mbcWriteRomFixed s.mbc a b ∨ m = mbcWriteRomSwitchable s.cart s.mbc a b ∨
        ∃ r, m = mbcWriteClock s.mbc r b)) ∨
    (storeCell s a = none ∧ memWrite s a b = { s with ifReg := b.setWidth 5 }) ∨
    (storeCell s a = none ∧ memWrite s a b = { s with vbk := b.setWidth 1 }) ∨
    (storeCell s a = none ∧ memWrite s a b = { s with svbk := svbkOf b }) ∨
    (storeCell s a = none ∧ memWrite s a b = { s with ieReg := b }) := by
  unfold memWrite storeCell
  cases h : busTarget s a with
  | romFixed => exact .inr (.inr (.inl ⟨rfl, _, rfl, .inl rfl⟩))
  | romSwitchable => exact .inr (.inr (.inl ⟨rfl, _, rfl, .inr (.inl rfl)⟩))
  | cartRam =>
    rcases mbcWriteRam_cases s a b with ⟨ht, hw⟩ | ⟨n, ht, hw⟩ | ⟨r, ht, hw⟩
    · exact .inl ⟨by simp [ht], hw⟩
    · exact .inr (.inl ⟨_, by simp [ht], by intro j; exact nofun, hw⟩)
    · exact .inr (.inr (.inl ⟨by simp [ht], _, hw, .inr (.inr ⟨r, rfl⟩)⟩))
  | cell x =>
    exact .inr (.inl ⟨x, rfl, fun j hj => busTarget_ne_rom s a j (hj ▸ h), rfl⟩)
  | nothing => exact .inl ⟨rfl, rfl⟩
  | ifReg => exact .inr (.inr (.inr (.inl ⟨rfl, rfl⟩)))
  | vbk => exact .inr (.inr (.inr (.inr (.inl ⟨rfl, rfl⟩))))
  | svbk => exact .inr (.inr (.inr (.inr (.inr (.inl ⟨rfl, rfl⟩)))))
  | ieReg => exact .inr (.inr (.inr (.inr (.inr (.inr ⟨rfl, rfl⟩)))))

@[simp] theorem memWrite_a (s : State) (x : Word) (v : Byte) : (memWrite s x v).a = s.a := by
  rcases memWrite_cases s x v with ⟨-, h⟩ | ⟨_, -, -, h⟩ | ⟨-, _, h, -⟩ | ⟨-, h⟩ | ⟨-, h⟩ | ⟨-, h⟩ | ⟨-, h⟩ <;> simp [h]

@[simp] theorem memWrite_b (s : State) (x : Word) (v : Byte) : (memWrite s x v).b = s.b := by
  rcases memWrite_cases s x v with ⟨-, h⟩ | ⟨_, -, -, h⟩ | ⟨-, _, h, -⟩ | ⟨-, h⟩ | ⟨-, h⟩ | ⟨-, h⟩ | ⟨-, h⟩ <;> simp [h]

@[simp] theorem memWrite_c (s : State) (x : Word) (v : Byte) : (memWrite s x v).c = s.c := by
  rcases memWrite_cases s x v with ⟨-, h⟩ | ⟨_, -, -, h⟩ | ⟨-, _, h, -⟩ | ⟨-, h⟩ | ⟨-, h⟩ | ⟨-, h⟩ | ⟨-, h⟩ <;> simp [h]

@[simp] theorem memWrite_d (s : State) (x : Word) (v : Byte) : (memWrite s x v).d = s.d := by
  rcases memWrite_cases s x v with ⟨-, h⟩ | ⟨_, -, -, h⟩ | ⟨-, _, h, -⟩ | ⟨-, h⟩ | ⟨-, h⟩ | ⟨-, h⟩ | ⟨-, h⟩ <;> simp [h]

@[simp] theorem memWrite_e (s : State) (x : Word) (v : Byte) : (memWrite s x v).e = s.e := by
  rcases memWrite_cases s x v with ⟨-, h⟩ | ⟨_, -, -, h⟩ | ⟨-, _, h, -⟩ | ⟨-, h⟩ | ⟨-, h⟩ | ⟨-, h⟩ | ⟨-, h⟩ <;> simp [h]

@[simp] theorem memWrite_h (s : State) (x : Word) (v : Byte) : (memWrite s x v).h = s.h := by
  rcases memWrite_cases s x v with ⟨-, h⟩ | ⟨_, -, -, h⟩ | ⟨-, _, h, -⟩ | ⟨-, h⟩ | ⟨-, h⟩ | ⟨-, h⟩ | ⟨-, h⟩ <;> simp [h]

@[simp] theorem memWrite_l (s : State) (x : Word) (v : Byte) : (memWrite s x v).l = s.l := by
  rcases memWrite_cases s x v with ⟨-, h⟩ | ⟨_, -, -, h⟩ | ⟨-, _, h, -⟩ | ⟨-, h⟩ | ⟨-, h⟩ | ⟨-, h⟩ | ⟨-, h⟩ <;> simp [h]

@[simp] theorem memWrite_flags (s : State) (x : Word) (v : Byte) : (memWrite s x v).flags = s.flags := by
  rcases memWrite_cases s x v with ⟨-, h⟩ | ⟨_, -, -, h⟩ | ⟨-, _, h, -⟩ | ⟨-, h⟩ | ⟨-, h⟩ | ⟨-, h⟩ | ⟨-, h⟩ <;> simp [h]

@[simp] theorem memWrite_pc (s : State) (x : Word) (v : Byte) : (memWrite s x v).pc = s.pc := by
  rcases memWrite_cases s x v with ⟨-, h⟩ | ⟨_, -, -, h⟩ | ⟨-, _, h, -⟩ | ⟨-, h⟩ | ⟨-, h⟩ | ⟨-, h⟩ | ⟨-, h⟩ <;> simp [h]

@[simp] theorem memWrite_sp (s : State) (x : Word) (v : Byte) : (memWrite s x v).sp = s.sp := by
  rcases memWrite_cases s x v with ⟨-, h⟩ | ⟨_, -, -, h⟩ | ⟨-, _, h, -⟩ | ⟨-, h⟩ | ⟨-, h⟩ | ⟨-, h⟩ | ⟨-, h⟩ <;> simp [h]

@[simp] theorem memWrite_ime (s : State) (x : Word) (v : Byte) : (memWrite s x v).ime = s.ime := by
  rcases memWrite_cases s x v with ⟨-, h⟩ | ⟨_, -, -, h⟩ | ⟨-, _, h, -⟩ | ⟨-, h⟩ | ⟨-, h⟩ | ⟨-, h⟩ | ⟨-, h⟩ <;> simp [h]

@[simp] theorem memWrite_eiPending (s : State) (x : Word) (v : Byte) : (memWrite s x v).eiPending = s.eiPending := by
  rcases memWrite_cases s x v with ⟨-, h⟩ | ⟨_, -, -, h⟩ | ⟨-, _, h, -⟩ | ⟨-, h⟩ | ⟨-, h⟩ | ⟨-, h⟩ | ⟨-, h⟩ <;> simp [h]

@[simp] theorem memWrite_halted (s : State) (x : Word) (v : Byte) : (memWrite s x v).halted = s.halted := by
  rcases memWrite_cases s x v with ⟨-, h⟩ | ⟨_, -, -, h⟩ | ⟨-, _, h, -⟩ | ⟨-, h⟩ | ⟨-, h⟩ | ⟨-, h⟩ | ⟨-, h⟩ <;> simp [h]

@[simp] theorem memWrite_stopped (s : State) (x : Word) (v : Byte) : (memWrite s x v).stopped = s.stopped := by
  rcases memWrite_cases s x v with ⟨-, h⟩ | ⟨_, -, -, h⟩ | ⟨-, _, h, -⟩ | ⟨-, h⟩ | ⟨-, h⟩ | ⟨-, h⟩ | ⟨-, h⟩ <;> simp [h]

@[simp] theorem memWrite_fault (s : State) (x : Word) (v : Byte) : (memWrite s x v).fault = s.fault := by
  rcases memWrite_cases s x v with ⟨-, h⟩ | ⟨_, -, -, h⟩ | ⟨-, _, h, -⟩ | ⟨-, h⟩ | ⟨-, h⟩ | ⟨-, h⟩ | ⟨-, h⟩ <;> simp [h]

@[simp] theorem memWrite_cycles (s : State) (x : Word) (v : Byte) : (memWrite s x v).cycles = s.cycles := by
  rcases memWrite_cases s x v with ⟨-, h⟩ | ⟨_, -, -, h⟩ | ⟨-, _, h, -⟩ | ⟨-, h⟩ | ⟨-, h⟩ | ⟨-, h⟩ | ⟨-, h⟩ <;> simp [h]

@[simp] theorem memWrite_cart (s : State) (x : Word) (v : Byte) : (memWrite s x v).cart = s.cart := by
  rcases memWrite_cases s x v with ⟨-, h⟩ | ⟨_, -, -, h⟩ | ⟨-, _, h, -⟩ | ⟨-, h⟩ | ⟨-, h⟩ | ⟨-, h⟩ | ⟨-, h⟩ <;> simp [h]

@[simp] theorem memWrite_cgbMode (s : State) (x : Word) (v : Byte) : (memWrite s x v).cgbMode = s.cgbMode := by
  rcases memWrite_cases s x v with ⟨-, h⟩ | ⟨_, -, -, h⟩ | ⟨-, _, h, -⟩ | ⟨-, h⟩ | ⟨-, h⟩ | ⟨-, h⟩ | ⟨-, h⟩ <;> simp [h]

@[simp] theorem memWrite_eiDelay (s : State) (x : Word) (v : Byte) : (memWrite s x v).eiDelay = s.eiDelay := by
  rcases memWrite_cases s x v with ⟨-, h⟩ | ⟨_, -, -, h⟩ | ⟨-, _, h, -⟩ | ⟨-, h⟩ | ⟨-, h⟩ | ⟨-, h⟩ | ⟨-, h⟩ <;> simp [h]

@[simp] theorem State.getReg_memWrite (s : State) (x : Word) (v : Byte) (r : Reg8) :
    (memWrite s x v).getReg r = s.getReg r := by cases r <;> simp [State.getReg]

/-! ### The bus depends on the bus alone -/

/-- Two states agree on everything the bus reads or writes, and on the configuration it depends on. -/
structure SameBus (s t : State) : Prop where
  mem : t.mem = s.mem
  mbc : t.mbc = s.mbc
  ifReg : t.ifReg = s.ifReg
  ieReg : t.ieReg = s.ieReg
  svbk : t.svbk = s.svbk
  vbk : t.vbk = s.vbk
  cart : t.cart = s.cart
  cgbMode : t.cgbMode = s.cgbMode

theorem SameBus.refl (s : State) : SameBus s s := ⟨rfl, rfl, rfl, rfl, rfl, rfl, rfl, rfl⟩

theorem SameBus.trans {s t u : State} (h : SameBus s t) (g : SameBus t u) : SameBus s u :=
  ⟨g.mem.trans h.mem, g.mbc.trans h.mbc, g.ifReg.trans h.ifReg, g.ieReg.trans h.ieReg, g.svbk.trans h.svbk,
    g.vbk.trans h.vbk, g.cart.trans h.cart, g.cgbMode.trans h.cgbMode⟩

theorem SameBus.busTarget {s t : State} (h : SameBus s t) (a : Word) : busTarget t a = busTarget s a := by
  have hv : vramBank t = vramBank s := by simp only [vramBank, h.cgbMode, h.vbk]
  have hw : wramBank t = wramBank s := by simp only [wramBank, h.cgbMode, h.svbk]
  unfold Machine.busTarget wramTarget
  rw [hv, hw]

theorem SameBus.romByte {s t : State} (h : SameBus s t) (bank off : Nat) : romByte t bank off = romByte s bank off := by
  unfold Machine.romByte
  rw [h.cart, h.mem]

theorem SameBus.memRead {s t : State} (h : SameBus s t) (a : Word) : memRead t a = memRead s a := by
  unfold Machine.memRead
  rw [h.busTarget a, h.ifReg, h.ieReg, h.svbk, h.vbk, h.mem]
  unfold mbcReadRomFixed mbcReadRomSwitchable mbcReadRam
  rw [h.romByte, h.romByte, h.mbc, h.cart, h.mem]

theorem SameBus.storeCell {s t : State} (h : SameBus s t) (a : Word) : storeCell t a = storeCell s a := by
  simp only [Machine.storeCell, h.busTarget a, h.mbc, h.cart]

theorem SameBus.readCell {s t : State} (h : SameBus s t) (a : Word) : readCell t a = readCell s a := by
  simp only [Machine.readCell, h.busTarget a, h.mbc, h.cart]

/-- Equal writes keep two buses equal. -/
theorem SameBus.memWrite {s t : State} (h : SameBus s t) (a : Word) (b : Byte) :
    SameBus (memWrite s a b) (memWrite t a b) := by
  have e : Machine.memWrite t a b = { t with
      mem := (Machine.memWrite s a b).mem, mbc := (Machine.memWrite s a b).mbc
      ifReg := (Machine.memWrite s a b).ifReg, ieReg := (Machine.memWrite s a b).ieReg
      svbk := (Machine.memWrite s a b).svbk, vbk := (Machine.memWrite s a b).vbk } := by
    obtain ⟨h1, h2, h3, h4, h5, h6, h7, h8⟩ := h
    have hb := (SameBus.mk h1 h2 h3 h4 h5 h6 h7 h8).busTarget a
    cases s; cases t
    simp only at h1 h2 h3 h4 h5 h6 h7 h8
    subst h1 h2 h3 h4 h5 h6 h7 h8
    simp only [Machine.memWrite, hb, mbcWriteRam]
    split
    all_goals first | rfl | (split <;> rfl)
  rw [e]
  exact ⟨rfl, rfl, rfl, rfl, rfl, rfl, by simp [h.cart], by simp [h.cgbMode]⟩

/-! ### Cells -/

theorem cellByte_poke {s : State} (h : s.mem.wf = true) (x : Loc) (v : Byte) (y : Loc) :
    cellByte (s.poke x v) y = if y = x then v else cellByte s y := by
  unfold cellByte
  rw [State.poke_mem, Memory.read_write h]
  by_cases hxy : y = x
  · simp [hxy]
  · have : y.key ≠ x.key := fun e => hxy (Loc.key_injective e)
    simp [hxy, this]

/-- A write leaves every cell but the one it stores to. -/
theorem cellByte_memWrite_other {s : State} (h : s.mem.wf = true) (a : Word) (b : Byte) {x : Loc}
    (hx : storeCell s a ≠ some x) : cellByte (memWrite s a b) x = cellByte s x := by
  rcases memWrite_cases s a b with ⟨-, hw⟩ | ⟨y, hy, -, hw⟩ | ⟨-, _, hw, -⟩ | ⟨-, hw⟩ | ⟨-, hw⟩ | ⟨-, hw⟩ | ⟨-, hw⟩
  · rw [hw]
  · have hne : x ≠ y := by
      intro e
      exact hx (e ▸ hy)
    rw [hw, cellByte_poke h, if_neg hne]
  all_goals (rw [hw]; rfl)

/-- A write stores its byte in the cell it stores to. -/
theorem cellByte_memWrite_same {s : State} (h : s.mem.wf = true) {a : Word} (b : Byte) {x : Loc}
    (hx : storeCell s a = some x) : cellByte (memWrite s a b) x = b := by
  rcases memWrite_cases s a b with ⟨hn, -⟩ | ⟨y, hy, -, hw⟩ | ⟨hn, -⟩ | ⟨hn, -⟩ | ⟨hn, -⟩ | ⟨hn, -⟩ | ⟨hn, -⟩
  all_goals first | (rw [hn] at hx; exact absurd hx (by simp)) | skip
  rw [hx] at hy
  cases hy
  rw [hw, cellByte_poke h, if_pos rfl]

/-- No write stores to the ROM image. -/
theorem storeCell_ne_rom (s : State) (a : Word) (j : Nat) : storeCell s a ≠ some (.rom j) := by
  rcases memWrite_cases s a 0#8 with ⟨hn, -⟩ | ⟨y, hy, hr, -⟩ | ⟨hn, -⟩ | ⟨hn, -⟩ | ⟨hn, -⟩ | ⟨hn, -⟩ | ⟨hn, -⟩
  all_goals first | (rw [hn]; exact nofun) | skip
  rw [hy]
  intro e
  exact hr j (by simpa using e)

theorem memWrite_mem_wf {s : State} (h : s.mem.wf = true) (a : Word) (b : Byte) : (memWrite s a b).mem.wf = true := by
  rcases memWrite_cases s a b with ⟨-, hw⟩ | ⟨y, -, -, hw⟩ | ⟨-, _, hw, -⟩ | ⟨-, hw⟩ | ⟨-, hw⟩ | ⟨-, hw⟩ | ⟨-, hw⟩ <;> rw [hw]
  all_goals first | exact h | exact Memory.wf_write h _ _

/-- Placing a program's byte from outside keeps the canonical form too. -/
theorem placeByte_mem_wf {s : State} (h : s.mem.wf = true) (a : Word) (b : Byte) : (placeByte s a b).mem.wf = true := by
  unfold placeByte
  split
  · exact Memory.wf_write h _ _
  · split <;> exact h

theorem placeCells_wf (base size : Nat) {m : Memory} (h : m.wf = true) (cells : List Host.Cell) :
    (placeCells base size m cells).wf = true := by
  induction cells generalizing m with
  | nil => exact h
  | cons c rest ih =>
    obtain ⟨k, v⟩ := c
    unfold placeCells
    apply ih
    split
    · exact Memory.wf_write h _ _
    · exact h

/-! ### The controller -/

theorem mbcWriteRomFixed_kind (m : Mbc) (a : Word) (b : Byte) : (mbcWriteRomFixed m a b).kind = m.kind := by
  cases m <;> rfl

theorem mbcWriteRomSwitchable_kind (cart : Cartridge) (m : Mbc) (a : Word) (b : Byte) :
    (mbcWriteRomSwitchable cart m a b).kind = m.kind := by cases m <;> rfl

@[simp] theorem Mbc.mapClocks_kind (f : Clocks → Clocks) (m : Mbc) : (m.mapClocks f).kind = m.kind := by cases m <;> rfl

@[simp] theorem Mbc.mapClocks_clocks (f : Clocks → Clocks) (m : Mbc) : (m.mapClocks f).clocks = m.clocks.map f := by
  cases m <;> rfl

/-- A change of the clock registers' values keeps the controller legal. -/
@[simp] theorem Mbc.mapClocks_legal (cart : Cartridge) (f : Clocks → Clocks) (m : Mbc) :
    Mbc.legal cart (m.mapClocks f) = Mbc.legal cart m := by cases m <;> simp [Mbc.mapClocks, Mbc.legal]

/-- In a legal state the clock registers exist exactly on an Mbc3 or Mbc30 with a timer. -/
theorem Mbc.clocks_isSome_of_legal {cart : Cartridge} {m : Mbc} (h : Mbc.legal cart m = true) :
    m.clocks.isSome = (decide (m.kind = .mbc3 ∨ m.kind = .mbc30) && cart.hasTimer) := by
  cases m <;> simp_all [Mbc.clocks, Mbc.kind, Mbc.legal]

/-- A clock register reads as its latched copy (spec 20 R146). -/
theorem mbcReadClock_of_clocks {m : Mbc} {k : Clocks} (h : m.clocks = some k) (r : ClockReg) :
    mbcReadClock m r = k.rtcLatched.readReg r := by
  unfold mbcReadClock
  rw [h]

/-- A change that keeps the latched set changes no clock read (spec 20 R147, R148). -/
theorem mbcReadClock_mapClocks {f : Clocks → Clocks} (hf : ∀ k, (f k).rtcLatched = k.rtcLatched) (m : Mbc) (r : ClockReg) :
    mbcReadClock (m.mapClocks f) r = mbcReadClock m r := by
  unfold mbcReadClock
  rw [Mbc.mapClocks_clocks]
  cases m.clocks <;> simp [hf]

/-- Writing a live clock register changes no clock read (spec 20 R147). -/
@[simp] theorem mbcReadClock_writeClock (m : Mbc) (r r' : ClockReg) (b : Byte) :
    mbcReadClock (mbcWriteClock m r b) r' = mbcReadClock m r' :=
  mbcReadClock_mapClocks (f := fun k => { k with rtc := k.rtc.writeReg r b }) (fun _ => rfl) m r'

theorem mbcWriteClock_kind (m : Mbc) (r : ClockReg) (b : Byte) : (mbcWriteClock m r b).kind = m.kind :=
  Mbc.mapClocks_kind _ _

@[simp] theorem memWrite_kind (s : State) (a : Word) (b : Byte) : (memWrite s a b).mbc.kind = s.mbc.kind := by
  rcases memWrite_cases s a b with ⟨-, hw⟩ | ⟨y, -, -, hw⟩ | ⟨-, m, hw, hm⟩ | ⟨-, hw⟩ | ⟨-, hw⟩ | ⟨-, hw⟩ | ⟨-, hw⟩
  case inr.inr.inl =>
    rw [hw]
    rcases hm with rfl | rfl | ⟨r, rfl⟩
    · exact mbcWriteRomFixed_kind _ _ _
    · exact mbcWriteRomSwitchable_kind _ _ _ _
    · exact mbcWriteClock_kind _ _ _
  all_goals first | (rw [hw]; done) | (rw [hw]; rfl)

end Sys2Proof.Machine
end

