-- ==== Sys2Proof/Laws/Legal.lean ====
section
/-!
SUPPORT. Which operations keep a legal state legal: the controller's writes, and a bus write.
-/
namespace Sys2Proof.Machine

/-- A legal state, part by part. -/
theorem State.legal_iff (s : State) : s.legal = true ↔
    s.mem.wf = true ∧ s.svbk ≠ 0#3 ∧ Mbc.legal s.cart s.mbc = true ∧ (s.eiDelay = true ∨ s.eiPending = false) := by
  simp [State.legal, and_assoc]

/-- SVBK is never left 0 (spec 20 R86). -/
theorem svbkOf_ne_zero (b : Byte) : svbkOf b ≠ 0#3 := by
  unfold svbkOf
  split
  · decide
  · assumption

theorem mbcWriteRomFixed_legal {cart : Cartridge} {m : Mbc} (h : Mbc.legal cart m = true) (a : Word) (b : Byte) :
    Mbc.legal cart (mbcWriteRomFixed m a b) = true := by
  have h127 := Nat.and_le_right (n := b.toNat) (m := 127)
  cases m <;> simp only [Mbc.legal, mbcWriteRomFixed] at h ⊢
  case mbc1 l =>
    unfold Mbc1.writeFixed
    dsimp only
    (repeat' split) <;> simp_all
  case mbc3 l =>
    unfold Mbc3.writeFixed
    dsimp only
    (repeat' split) <;> simp_all
    omega
  case mbc30 l =>
    unfold Mbc3.writeFixed
    dsimp only
    (repeat' split) <;> simp_all
  case mbc5 l =>
    unfold Mbc5.writeFixed
    (repeat' split) <;> simp_all

theorem mbcWriteRomSwitchable_legal {cart : Cartridge} {m : Mbc} (h : Mbc.legal cart m = true) (a : Word) (b : Byte) :
    Mbc.legal cart (mbcWriteRomSwitchable cart m a b) = true := by
  have h7 := Nat.and_le_right (n := b.toNat % 16) (m := 7)
  cases m <;> simp only [Mbc.legal, mbcWriteRomSwitchable] at h ⊢
  case mbc1 l =>
    unfold Mbc1.writeSwitchable
    split <;> exact h
  case mbc3 l =>
    unfold Mbc3.writeSwitchable
    (repeat' split) <;> simp_all
  case mbc30 l =>
    unfold Mbc3.writeSwitchable
    (repeat' split) <;> simp_all
  case mbc5 l =>
    unfold Mbc5.writeSwitchable
    (repeat' split) <;> simp_all
    omega

/-- A controller just powered on is legal, and so is one after a system reset. -/
theorem Mbc.powerOn_legal (cart : Cartridge) (r : RtcInit) (k : MbcKind) :
    Mbc.legal cart (Mbc.powerOn r cart.hasTimer k) = true := by
  cases h : cart.hasTimer <;> cases k <;>
    simp [Mbc.powerOn, Mbc.legal, Mbc1.atReset, Mbc3.atReset, Mbc5.atReset, Clocks.powerOn, h]

theorem Mbc.systemReset_legal {cart : Cartridge} {m : Mbc} (h : Mbc.legal cart m = true) :
    Mbc.legal cart m.systemReset = true := by
  cases m <;> simp_all [Mbc.systemReset, Mbc.legal, Mbc1.atReset, Mbc3.atReset, Mbc5.atReset]

/-- A bus write keeps a legal state legal. -/
theorem memWrite_legal {s : State} (h : s.legal = true) (a : Word) (b : Byte) : (memWrite s a b).legal = true := by
  rw [State.legal_iff] at h ⊢
  obtain ⟨hm, hs, hc, he⟩ := h
  rcases memWrite_cases s a b with ⟨-, hw⟩ | ⟨y, -, -, hw⟩ | ⟨-, m, hw, hk⟩ | ⟨-, hw⟩ | ⟨-, hw⟩ | ⟨-, hw⟩ | ⟨-, hw⟩ <;> rw [hw]
  · exact ⟨hm, hs, hc, he⟩
  · exact ⟨Memory.wf_write hm _ _, hs, hc, he⟩
  · refine ⟨hm, hs, ?_, he⟩
    rcases hk with rfl | rfl | ⟨r, rfl⟩
    · exact mbcWriteRomFixed_legal hc a b
    · exact mbcWriteRomSwitchable_legal hc a b
    · exact (Mbc.mapClocks_legal _ _ _).trans hc
  · exact ⟨hm, hs, hc, he⟩
  · exact ⟨hm, hs, hc, he⟩
  · exact ⟨hm, svbkOf_ne_zero b, hc, he⟩
  · exact ⟨hm, hs, hc, he⟩

end Sys2Proof.Machine
end

