-- ==== Sys2Proof/Laws/Ops.lean ====
section
/-!
SUPPORT. What each shared operation can do: the stack primitives, taking an interrupt and returning from one, and the
step.
-/
namespace Sys2Proof.Machine

/-! ### The stack primitives -/

theorem push16_fault {s : State} (h : s.sp.toNat < 2) (v : Word) :
    push16 v s = .error (.raised (.stackFault s.sp)) := by simp [push16, h]

/-- A push: two writes through the bus, high byte first, sp two lower. -/
theorem push16_ok {s : State} (h : 2 ≤ s.sp.toNat) (v : Word) :
    push16 v s = .ok (memWrite { memWrite { s with sp := s.sp - 1#16 } (s.sp - 1#16) (hi8 v) with sp := s.sp - 2#16 }
      (s.sp - 2#16) (lo8 v)) := by
  have h2 : ¬ s.sp.toNat < 2 := by omega
  have h3 : s.sp - 1#16 - 1#16 = s.sp - 2#16 := by rw [BitVec.sub_sub]; rfl
  simp [push16, h2, h3]

theorem pop16_fault {s : State} (h : 0xFFFD < s.sp.toNat) : pop16 s = .error (.raised (.stackFault s.sp)) := by
  simp [pop16, h]

/-- A pop: the word at sp, sp two higher. -/
theorem pop16_ok {s : State} (h : s.sp.toNat ≤ 0xFFFD) :
    pop16 s = .ok (memRead16 s s.sp, { s with sp := s.sp + 2#16 }) := by
  have h2 : ¬ 0xFFFD < s.sp.toNat := by omega
  simp [pop16, h2]

/-! ### Interrupts -/

theorem dispatchInterrupt_fault {s : State} (h : s.sp.toNat < 2) :
    dispatchInterrupt s = .fault (.raised (.stackFault s.sp)) := by simp [dispatchInterrupt, push16, h]

theorem returnFromInterrupt_ok {s : State} (h : s.sp.toNat ≤ 0xFFFD) :
    returnFromInterrupt s =
      .next { s with sp := s.sp + 2#16, pc := memRead16 s s.sp, ime := true, eiPending := false } := by
  simp [returnFromInterrupt, pop16_ok h]

theorem returnFromInterrupt_fault {s : State} (h : 0xFFFD < s.sp.toNat) :
    returnFromInterrupt s = .fault (.raised (.stackFault s.sp)) := by simp [returnFromInterrupt, pop16_fault h]

/-- The lowest source of a request set is requested in it, and none below it is. -/
theorem lowestSource_spec (p : BitVec 5) (h : p ≠ 0#5) :
    p.getLsbD (lowestSource p) = true ∧ ∀ j, j < lowestSource p → p.getLsbD j = false := by
  have hall : ∀ p : BitVec 5, p ≠ 0#5 → p.getLsbD (lowestSource p) = true ∧
      (∀ j : Fin 5, j.val < lowestSource p → p.getLsbD j.val = false) ∧ lowestSource p < 5 := by decide
  obtain ⟨h1, h2, h3⟩ := hall p h
  exact ⟨h1, fun j hj => h2 ⟨j, by omega⟩ hj⟩

/-! ### The step -/

@[simp] theorem pending_wakeIfPending (s : State) : pending (wakeIfPending s) = pending s := by
  unfold wakeIfPending
  split <;> rfl

@[simp] theorem wakeIfPending_ime (s : State) : (wakeIfPending s).ime = s.ime := by
  unfold wakeIfPending
  split <;> rfl

/-- Everything a step that answers a next state did. -/
theorem step_cases {s t : State} (h : step s = .next t) :
    s.fault = none ∧ s.stopped = false ∧
    ((s.ime = true ∧ pending s ≠ 0#5 ∧ dispatchInterrupt (wakeIfPending s) = .next t) ∨
     ((wakeIfPending s).halted = true ∧ t = idleStep (wakeIfPending s)) ∨
     (∃ u, exec (fetchInstr (wakeIfPending s)) (wakeIfPending s) = .next u ∧
        t = finishStep (fetchInstr (wakeIfPending s)) u)) := by
  unfold step at h
  split at h
  · exact nomatch h
  · rename_i hf
    split at h
    · exact nomatch h
    · rename_i hs
      refine ⟨hf, by simpa using hs, ?_⟩
      simp only [pending_wakeIfPending, wakeIfPending_ime] at h
      split at h
      · rename_i hd
        have hd' : s.ime = true ∧ pending s ≠ 0#5 := by simpa using hd
        exact .inl ⟨hd'.1, hd'.2, h⟩
      · split at h
        · rename_i hh
          exact .inr (.inl ⟨hh, by cases h; rfl⟩)
        · split at h
          · rename_i u hu
            exact .inr (.inr ⟨u, hu, by cases h; rfl⟩)
          · exact nomatch h
          · exact nomatch h

end Sys2Proof.Machine
end

