-- ==== Sys2Proof/Laws/PerInstr.lean ====
section
/-!
SUPPORT. Laws of every row of the opcode table, one lemma per constructor. RoundTrip: a row's bytes decode to the row,
whatever bytes follow them (spec 30 R172).
-/
open Sys2Proof.Machine

namespace Sys2Proof.Laws.RoundTrip

/-- The bytes `encode` gives, with anything after them, decode to the row and leave the rest. -/
def Statement (i : Instr) : Prop := ∀ rest : List Byte, decode (encode i ++ rest) = .ok (i, rest)

theorem decode_one {op : Byte} {i : Instr} (h : ∀ b1 b2, decodeBytes op b1 b2 = i) (hl : encode i = [op]) : Statement i := by
  intro rest
  have hlen : i.length = 1 := by rw [Instr.length, hl]; rfl
  simp [hl, decode, h, hlen]

theorem decode_two {op n : Byte} {i : Instr} (h : ∀ b2, decodeBytes op n b2 = i) (hl : encode i = [op, n]) : Statement i := by
  intro rest
  have hlen : i.length = 2 := by rw [Instr.length, hl]; rfl
  simp [hl, decode, h, hlen]

theorem decode_three (op : Byte) {nn : Word} {i : Instr} (h : decodeBytes op (lo8 nn) (hi8 nn) = i)
    (hl : encode i = withWord op nn) : Statement i := by
  intro rest
  have hlen : i.length = 3 := by rw [Instr.length, hl]; rfl
  simp [hl, withWord, decode, h, hlen]

theorem nop : Statement .nop := decode_one (fun _ _ => rfl) rfl
theorem ld_BC_nn (nn : Word) : Statement (.ld_BC_nn nn) := decode_three 0x01#8 (congrArg Instr.ld_BC_nn (word16_hi8_lo8 nn)) rfl
theorem ld_mBC_A : Statement .ld_mBC_A := decode_one (fun _ _ => rfl) rfl
theorem inc_BC : Statement .inc_BC := decode_one (fun _ _ => rfl) rfl
theorem inc_B : Statement .inc_B := decode_one (fun _ _ => rfl) rfl
theorem dec_B : Statement .dec_B := decode_one (fun _ _ => rfl) rfl
theorem ld_B_n (n : Byte) : Statement (.ld_B_n n) := decode_two (fun _ => rfl) rfl
theorem rlca : Statement .rlca := decode_one (fun _ _ => rfl) rfl
theorem ld_mnn_SP (nn : Word) : Statement (.ld_mnn_SP nn) := decode_three 0x08#8 (congrArg Instr.ld_mnn_SP (word16_hi8_lo8 nn)) rfl
theorem add_HL_BC : Statement .add_HL_BC := decode_one (fun _ _ => rfl) rfl
theorem ld_A_mBC : Statement .ld_A_mBC := decode_one (fun _ _ => rfl) rfl
theorem dec_BC : Statement .dec_BC := decode_one (fun _ _ => rfl) rfl
theorem inc_C : Statement .inc_C := decode_one (fun _ _ => rfl) rfl
theorem dec_C : Statement .dec_C := decode_one (fun _ _ => rfl) rfl
theorem ld_C_n (n : Byte) : Statement (.ld_C_n n) := decode_two (fun _ => rfl) rfl
theorem rrca : Statement .rrca := decode_one (fun _ _ => rfl) rfl
theorem stop (n : Byte) : Statement (.stop n) := decode_two (fun _ => rfl) rfl
theorem ld_DE_nn (nn : Word) : Statement (.ld_DE_nn nn) := decode_three 0x11#8 (congrArg Instr.ld_DE_nn (word16_hi8_lo8 nn)) rfl
theorem ld_mDE_A : Statement .ld_mDE_A := decode_one (fun _ _ => rfl) rfl
theorem inc_DE : Statement .inc_DE := decode_one (fun _ _ => rfl) rfl
theorem inc_D : Statement .inc_D := decode_one (fun _ _ => rfl) rfl
theorem dec_D : Statement .dec_D := decode_one (fun _ _ => rfl) rfl
theorem ld_D_n (n : Byte) : Statement (.ld_D_n n) := decode_two (fun _ => rfl) rfl
theorem rla : Statement .rla := decode_one (fun _ _ => rfl) rfl
theorem jr_e (e : Byte) : Statement (.jr_e e) := decode_two (fun _ => rfl) rfl
theorem add_HL_DE : Statement .add_HL_DE := decode_one (fun _ _ => rfl) rfl
theorem ld_A_mDE : Statement .ld_A_mDE := decode_one (fun _ _ => rfl) rfl
theorem dec_DE : Statement .dec_DE := decode_one (fun _ _ => rfl) rfl
theorem inc_E : Statement .inc_E := decode_one (fun _ _ => rfl) rfl
theorem dec_E : Statement .dec_E := decode_one (fun _ _ => rfl) rfl
theorem ld_E_n (n : Byte) : Statement (.ld_E_n n) := decode_two (fun _ => rfl) rfl
theorem rra : Statement .rra := decode_one (fun _ _ => rfl) rfl
theorem jr_NZ_e (e : Byte) : Statement (.jr_NZ_e e) := decode_two (fun _ => rfl) rfl
theorem ld_HL_nn (nn : Word) : Statement (.ld_HL_nn nn) := decode_three 0x21#8 (congrArg Instr.ld_HL_nn (word16_hi8_lo8 nn)) rfl
theorem ld_mHLinc_A : Statement .ld_mHLinc_A := decode_one (fun _ _ => rfl) rfl
theorem inc_HL : Statement .inc_HL := decode_one (fun _ _ => rfl) rfl
theorem inc_H : Statement .inc_H := decode_one (fun _ _ => rfl) rfl
theorem dec_H : Statement .dec_H := decode_one (fun _ _ => rfl) rfl
theorem ld_H_n (n : Byte) : Statement (.ld_H_n n) := decode_two (fun _ => rfl) rfl
theorem daa : Statement .daa := decode_one (fun _ _ => rfl) rfl
theorem jr_Z_e (e : Byte) : Statement (.jr_Z_e e) := decode_two (fun _ => rfl) rfl
theorem add_HL_HL : Statement .add_HL_HL := decode_one (fun _ _ => rfl) rfl
theorem ld_A_mHLinc : Statement .ld_A_mHLinc := decode_one (fun _ _ => rfl) rfl
theorem dec_HL : Statement .dec_HL := decode_one (fun _ _ => rfl) rfl
theorem inc_L : Statement .inc_L := decode_one (fun _ _ => rfl) rfl
theorem dec_L : Statement .dec_L := decode_one (fun _ _ => rfl) rfl
theorem ld_L_n (n : Byte) : Statement (.ld_L_n n) := decode_two (fun _ => rfl) rfl
theorem cpl : Statement .cpl := decode_one (fun _ _ => rfl) rfl
theorem jr_NC_e (e : Byte) : Statement (.jr_NC_e e) := decode_two (fun _ => rfl) rfl
theorem ld_SP_nn (nn : Word) : Statement (.ld_SP_nn nn) := decode_three 0x31#8 (congrArg Instr.ld_SP_nn (word16_hi8_lo8 nn)) rfl
theorem ld_mHLdec_A : Statement .ld_mHLdec_A := decode_one (fun _ _ => rfl) rfl
theorem inc_SP : Statement .inc_SP := decode_one (fun _ _ => rfl) rfl
theorem inc_mHL : Statement .inc_mHL := decode_one (fun _ _ => rfl) rfl
theorem dec_mHL : Statement .dec_mHL := decode_one (fun _ _ => rfl) rfl
theorem ld_mHL_n (n : Byte) : Statement (.ld_mHL_n n) := decode_two (fun _ => rfl) rfl
theorem scf : Statement .scf := decode_one (fun _ _ => rfl) rfl
theorem jr_C_e (e : Byte) : Statement (.jr_C_e e) := decode_two (fun _ => rfl) rfl
theorem add_HL_SP : Statement .add_HL_SP := decode_one (fun _ _ => rfl) rfl
theorem ld_A_mHLdec : Statement .ld_A_mHLdec := decode_one (fun _ _ => rfl) rfl
theorem dec_SP : Statement .dec_SP := decode_one (fun _ _ => rfl) rfl
theorem inc_A : Statement .inc_A := decode_one (fun _ _ => rfl) rfl
theorem dec_A : Statement .dec_A := decode_one (fun _ _ => rfl) rfl
theorem ld_A_n (n : Byte) : Statement (.ld_A_n n) := decode_two (fun _ => rfl) rfl
theorem ccf : Statement .ccf := decode_one (fun _ _ => rfl) rfl
theorem ld_B_B : Statement .ld_B_B := decode_one (fun _ _ => rfl) rfl
theorem ld_B_C : Statement .ld_B_C := decode_one (fun _ _ => rfl) rfl
theorem ld_B_D : Statement .ld_B_D := decode_one (fun _ _ => rfl) rfl
theorem ld_B_E : Statement .ld_B_E := decode_one (fun _ _ => rfl) rfl
theorem ld_B_H : Statement .ld_B_H := decode_one (fun _ _ => rfl) rfl
theorem ld_B_L : Statement .ld_B_L := decode_one (fun _ _ => rfl) rfl
theorem ld_B_mHL : Statement .ld_B_mHL := decode_one (fun _ _ => rfl) rfl
theorem ld_B_A : Statement .ld_B_A := decode_one (fun _ _ => rfl) rfl
theorem ld_C_B : Statement .ld_C_B := decode_one (fun _ _ => rfl) rfl
theorem ld_C_C : Statement .ld_C_C := decode_one (fun _ _ => rfl) rfl
theorem ld_C_D : Statement .ld_C_D := decode_one (fun _ _ => rfl) rfl
theorem ld_C_E : Statement .ld_C_E := decode_one (fun _ _ => rfl) rfl
theorem ld_C_H : Statement .ld_C_H := decode_one (fun _ _ => rfl) rfl
theorem ld_C_L : Statement .ld_C_L := decode_one (fun _ _ => rfl) rfl
theorem ld_C_mHL : Statement .ld_C_mHL := decode_one (fun _ _ => rfl) rfl
theorem ld_C_A : Statement .ld_C_A := decode_one (fun _ _ => rfl) rfl
theorem ld_D_B : Statement .ld_D_B := decode_one (fun _ _ => rfl) rfl
theorem ld_D_C : Statement .ld_D_C := decode_one (fun _ _ => rfl) rfl
theorem ld_D_D : Statement .ld_D_D := decode_one (fun _ _ => rfl) rfl
theorem ld_D_E : Statement .ld_D_E := decode_one (fun _ _ => rfl) rfl
theorem ld_D_H : Statement .ld_D_H := decode_one (fun _ _ => rfl) rfl
theorem ld_D_L : Statement .ld_D_L := decode_one (fun _ _ => rfl) rfl
theorem ld_D_mHL : Statement .ld_D_mHL := decode_one (fun _ _ => rfl) rfl
theorem ld_D_A : Statement .ld_D_A := decode_one (fun _ _ => rfl) rfl
theorem ld_E_B : Statement .ld_E_B := decode_one (fun _ _ => rfl) rfl
theorem ld_E_C : Statement .ld_E_C := decode_one (fun _ _ => rfl) rfl
theorem ld_E_D : Statement .ld_E_D := decode_one (fun _ _ => rfl) rfl
theorem ld_E_E : Statement .ld_E_E := decode_one (fun _ _ => rfl) rfl
theorem ld_E_H : Statement .ld_E_H := decode_one (fun _ _ => rfl) rfl
theorem ld_E_L : Statement .ld_E_L := decode_one (fun _ _ => rfl) rfl
theorem ld_E_mHL : Statement .ld_E_mHL := decode_one (fun _ _ => rfl) rfl
theorem ld_E_A : Statement .ld_E_A := decode_one (fun _ _ => rfl) rfl
theorem ld_H_B : Statement .ld_H_B := decode_one (fun _ _ => rfl) rfl
theorem ld_H_C : Statement .ld_H_C := decode_one (fun _ _ => rfl) rfl
theorem ld_H_D : Statement .ld_H_D := decode_one (fun _ _ => rfl) rfl
theorem ld_H_E : Statement .ld_H_E := decode_one (fun _ _ => rfl) rfl
theorem ld_H_H : Statement .ld_H_H := decode_one (fun _ _ => rfl) rfl
theorem ld_H_L : Statement .ld_H_L := decode_one (fun _ _ => rfl) rfl
theorem ld_H_mHL : Statement .ld_H_mHL := decode_one (fun _ _ => rfl) rfl
theorem ld_H_A : Statement .ld_H_A := decode_one (fun _ _ => rfl) rfl
theorem ld_L_B : Statement .ld_L_B := decode_one (fun _ _ => rfl) rfl
theorem ld_L_C : Statement .ld_L_C := decode_one (fun _ _ => rfl) rfl
theorem ld_L_D : Statement .ld_L_D := decode_one (fun _ _ => rfl) rfl
theorem ld_L_E : Statement .ld_L_E := decode_one (fun _ _ => rfl) rfl
theorem ld_L_H : Statement .ld_L_H := decode_one (fun _ _ => rfl) rfl
theorem ld_L_L : Statement .ld_L_L := decode_one (fun _ _ => rfl) rfl
theorem ld_L_mHL : Statement .ld_L_mHL := decode_one (fun _ _ => rfl) rfl
theorem ld_L_A : Statement .ld_L_A := decode_one (fun _ _ => rfl) rfl
theorem ld_mHL_B : Statement .ld_mHL_B := decode_one (fun _ _ => rfl) rfl
theorem ld_mHL_C : Statement .ld_mHL_C := decode_one (fun _ _ => rfl) rfl
theorem ld_mHL_D : Statement .ld_mHL_D := decode_one (fun _ _ => rfl) rfl
theorem ld_mHL_E : Statement .ld_mHL_E := decode_one (fun _ _ => rfl) rfl
theorem ld_mHL_H : Statement .ld_mHL_H := decode_one (fun _ _ => rfl) rfl
theorem ld_mHL_L : Statement .ld_mHL_L := decode_one (fun _ _ => rfl) rfl
theorem halt : Statement .halt := decode_one (fun _ _ => rfl) rfl
theorem ld_mHL_A : Statement .ld_mHL_A := decode_one (fun _ _ => rfl) rfl
theorem ld_A_B : Statement .ld_A_B := decode_one (fun _ _ => rfl) rfl
theorem ld_A_C : Statement .ld_A_C := decode_one (fun _ _ => rfl) rfl
theorem ld_A_D : Statement .ld_A_D := decode_one (fun _ _ => rfl) rfl
theorem ld_A_E : Statement .ld_A_E := decode_one (fun _ _ => rfl) rfl
theorem ld_A_H : Statement .ld_A_H := decode_one (fun _ _ => rfl) rfl
theorem ld_A_L : Statement .ld_A_L := decode_one (fun _ _ => rfl) rfl
theorem ld_A_mHL : Statement .ld_A_mHL := decode_one (fun _ _ => rfl) rfl
theorem ld_A_A : Statement .ld_A_A := decode_one (fun _ _ => rfl) rfl
theorem add_A_B : Statement .add_A_B := decode_one (fun _ _ => rfl) rfl
theorem add_A_C : Statement .add_A_C := decode_one (fun _ _ => rfl) rfl
theorem add_A_D : Statement .add_A_D := decode_one (fun _ _ => rfl) rfl
theorem add_A_E : Statement .add_A_E := decode_one (fun _ _ => rfl) rfl
theorem add_A_H : Statement .add_A_H := decode_one (fun _ _ => rfl) rfl
theorem add_A_L : Statement .add_A_L := decode_one (fun _ _ => rfl) rfl
theorem add_A_mHL : Statement .add_A_mHL := decode_one (fun _ _ => rfl) rfl
theorem add_A_A : Statement .add_A_A := decode_one (fun _ _ => rfl) rfl
theorem adc_A_B : Statement .adc_A_B := decode_one (fun _ _ => rfl) rfl
theorem adc_A_C : Statement .adc_A_C := decode_one (fun _ _ => rfl) rfl
theorem adc_A_D : Statement .adc_A_D := decode_one (fun _ _ => rfl) rfl
theorem adc_A_E : Statement .adc_A_E := decode_one (fun _ _ => rfl) rfl
theorem adc_A_H : Statement .adc_A_H := decode_one (fun _ _ => rfl) rfl
theorem adc_A_L : Statement .adc_A_L := decode_one (fun _ _ => rfl) rfl
theorem adc_A_mHL : Statement .adc_A_mHL := decode_one (fun _ _ => rfl) rfl
theorem adc_A_A : Statement .adc_A_A := decode_one (fun _ _ => rfl) rfl
theorem sub_B : Statement .sub_B := decode_one (fun _ _ => rfl) rfl
theorem sub_C : Statement .sub_C := decode_one (fun _ _ => rfl) rfl
theorem sub_D : Statement .sub_D := decode_one (fun _ _ => rfl) rfl
theorem sub_E : Statement .sub_E := decode_one (fun _ _ => rfl) rfl
theorem sub_H : Statement .sub_H := decode_one (fun _ _ => rfl) rfl
theorem sub_L : Statement .sub_L := decode_one (fun _ _ => rfl) rfl
theorem sub_mHL : Statement .sub_mHL := decode_one (fun _ _ => rfl) rfl
theorem sub_A : Statement .sub_A := decode_one (fun _ _ => rfl) rfl
theorem sbc_A_B : Statement .sbc_A_B := decode_one (fun _ _ => rfl) rfl
theorem sbc_A_C : Statement .sbc_A_C := decode_one (fun _ _ => rfl) rfl
theorem sbc_A_D : Statement .sbc_A_D := decode_one (fun _ _ => rfl) rfl
theorem sbc_A_E : Statement .sbc_A_E := decode_one (fun _ _ => rfl) rfl
theorem sbc_A_H : Statement .sbc_A_H := decode_one (fun _ _ => rfl) rfl
theorem sbc_A_L : Statement .sbc_A_L := decode_one (fun _ _ => rfl) rfl
theorem sbc_A_mHL : Statement .sbc_A_mHL := decode_one (fun _ _ => rfl) rfl
theorem sbc_A_A : Statement .sbc_A_A := decode_one (fun _ _ => rfl) rfl
theorem and_B : Statement .and_B := decode_one (fun _ _ => rfl) rfl
theorem and_C : Statement .and_C := decode_one (fun _ _ => rfl) rfl
theorem and_D : Statement .and_D := decode_one (fun _ _ => rfl) rfl
theorem and_E : Statement .and_E := decode_one (fun _ _ => rfl) rfl
theorem and_H : Statement .and_H := decode_one (fun _ _ => rfl) rfl
theorem and_L : Statement .and_L := decode_one (fun _ _ => rfl) rfl
theorem and_mHL : Statement .and_mHL := decode_one (fun _ _ => rfl) rfl
theorem and_A : Statement .and_A := decode_one (fun _ _ => rfl) rfl
theorem xor_B : Statement .xor_B := decode_one (fun _ _ => rfl) rfl
theorem xor_C : Statement .xor_C := decode_one (fun _ _ => rfl) rfl
theorem xor_D : Statement .xor_D := decode_one (fun _ _ => rfl) rfl
theorem xor_E : Statement .xor_E := decode_one (fun _ _ => rfl) rfl
theorem xor_H : Statement .xor_H := decode_one (fun _ _ => rfl) rfl
theorem xor_L : Statement .xor_L := decode_one (fun _ _ => rfl) rfl
theorem xor_mHL : Statement .xor_mHL := decode_one (fun _ _ => rfl) rfl
theorem xor_A : Statement .xor_A := decode_one (fun _ _ => rfl) rfl
theorem or_B : Statement .or_B := decode_one (fun _ _ => rfl) rfl
theorem or_C : Statement .or_C := decode_one (fun _ _ => rfl) rfl
theorem or_D : Statement .or_D := decode_one (fun _ _ => rfl) rfl
theorem or_E : Statement .or_E := decode_one (fun _ _ => rfl) rfl
theorem or_H : Statement .or_H := decode_one (fun _ _ => rfl) rfl
theorem or_L : Statement .or_L := decode_one (fun _ _ => rfl) rfl
theorem or_mHL : Statement .or_mHL := decode_one (fun _ _ => rfl) rfl
theorem or_A : Statement .or_A := decode_one (fun _ _ => rfl) rfl
theorem cp_B : Statement .cp_B := decode_one (fun _ _ => rfl) rfl
theorem cp_C : Statement .cp_C := decode_one (fun _ _ => rfl) rfl
theorem cp_D : Statement .cp_D := decode_one (fun _ _ => rfl) rfl
theorem cp_E : Statement .cp_E := decode_one (fun _ _ => rfl) rfl
theorem cp_H : Statement .cp_H := decode_one (fun _ _ => rfl) rfl
theorem cp_L : Statement .cp_L := decode_one (fun _ _ => rfl) rfl
theorem cp_mHL : Statement .cp_mHL := decode_one (fun _ _ => rfl) rfl
theorem cp_A : Statement .cp_A := decode_one (fun _ _ => rfl) rfl
theorem ret_NZ : Statement .ret_NZ := decode_one (fun _ _ => rfl) rfl
theorem pop_BC : Statement .pop_BC := decode_one (fun _ _ => rfl) rfl
theorem jp_NZ_nn (nn : Word) : Statement (.jp_NZ_nn nn) := decode_three 0xC2#8 (congrArg Instr.jp_NZ_nn (word16_hi8_lo8 nn)) rfl
theorem jp_nn (nn : Word) : Statement (.jp_nn nn) := decode_three 0xC3#8 (congrArg Instr.jp_nn (word16_hi8_lo8 nn)) rfl
theorem call_NZ_nn (nn : Word) : Statement (.call_NZ_nn nn) := decode_three 0xC4#8 (congrArg Instr.call_NZ_nn (word16_hi8_lo8 nn)) rfl
theorem push_BC : Statement .push_BC := decode_one (fun _ _ => rfl) rfl
theorem add_A_n (n : Byte) : Statement (.add_A_n n) := decode_two (fun _ => rfl) rfl
theorem rst_00H : Statement .rst_00H := decode_one (fun _ _ => rfl) rfl
theorem ret_Z : Statement .ret_Z := decode_one (fun _ _ => rfl) rfl
theorem ret : Statement .ret := decode_one (fun _ _ => rfl) rfl
theorem jp_Z_nn (nn : Word) : Statement (.jp_Z_nn nn) := decode_three 0xCA#8 (congrArg Instr.jp_Z_nn (word16_hi8_lo8 nn)) rfl
theorem call_Z_nn (nn : Word) : Statement (.call_Z_nn nn) := decode_three 0xCC#8 (congrArg Instr.call_Z_nn (word16_hi8_lo8 nn)) rfl
theorem call_nn (nn : Word) : Statement (.call_nn nn) := decode_three 0xCD#8 (congrArg Instr.call_nn (word16_hi8_lo8 nn)) rfl
theorem adc_A_n (n : Byte) : Statement (.adc_A_n n) := decode_two (fun _ => rfl) rfl
theorem rst_08H : Statement .rst_08H := decode_one (fun _ _ => rfl) rfl
theorem ret_NC : Statement .ret_NC := decode_one (fun _ _ => rfl) rfl
theorem pop_DE : Statement .pop_DE := decode_one (fun _ _ => rfl) rfl
theorem jp_NC_nn (nn : Word) : Statement (.jp_NC_nn nn) := decode_three 0xD2#8 (congrArg Instr.jp_NC_nn (word16_hi8_lo8 nn)) rfl
theorem unassigned_D3 : Statement .unassigned_D3 := decode_one (fun _ _ => rfl) rfl
theorem call_NC_nn (nn : Word) : Statement (.call_NC_nn nn) := decode_three 0xD4#8 (congrArg Instr.call_NC_nn (word16_hi8_lo8 nn)) rfl
theorem push_DE : Statement .push_DE := decode_one (fun _ _ => rfl) rfl
theorem sub_n (n : Byte) : Statement (.sub_n n) := decode_two (fun _ => rfl) rfl
theorem rst_10H : Statement .rst_10H := decode_one (fun _ _ => rfl) rfl
theorem ret_C : Statement .ret_C := decode_one (fun _ _ => rfl) rfl
theorem reti : Statement .reti := decode_one (fun _ _ => rfl) rfl
theorem jp_C_nn (nn : Word) : Statement (.jp_C_nn nn) := decode_three 0xDA#8 (congrArg Instr.jp_C_nn (word16_hi8_lo8 nn)) rfl
theorem unassigned_DB : Statement .unassigned_DB := decode_one (fun _ _ => rfl) rfl
theorem call_C_nn (nn : Word) : Statement (.call_C_nn nn) := decode_three 0xDC#8 (congrArg Instr.call_C_nn (word16_hi8_lo8 nn)) rfl
theorem unassigned_DD : Statement .unassigned_DD := decode_one (fun _ _ => rfl) rfl
theorem sbc_A_n (n : Byte) : Statement (.sbc_A_n n) := decode_two (fun _ => rfl) rfl
theorem rst_18H : Statement .rst_18H := decode_one (fun _ _ => rfl) rfl
theorem ldh_mn_A (n : Byte) : Statement (.ldh_mn_A n) := decode_two (fun _ => rfl) rfl
theorem pop_HL : Statement .pop_HL := decode_one (fun _ _ => rfl) rfl
theorem ldh_mC_A : Statement .ldh_mC_A := decode_one (fun _ _ => rfl) rfl
theorem unassigned_E3 : Statement .unassigned_E3 := decode_one (fun _ _ => rfl) rfl
theorem unassigned_E4 : Statement .unassigned_E4 := decode_one (fun _ _ => rfl) rfl
theorem push_HL : Statement .push_HL := decode_one (fun _ _ => rfl) rfl
theorem and_n (n : Byte) : Statement (.and_n n) := decode_two (fun _ => rfl) rfl
theorem rst_20H : Statement .rst_20H := decode_one (fun _ _ => rfl) rfl
theorem add_SP_e (e : Byte) : Statement (.add_SP_e e) := decode_two (fun _ => rfl) rfl
theorem jp_HL : Statement .jp_HL := decode_one (fun _ _ => rfl) rfl
theorem ld_mnn_A (nn : Word) : Statement (.ld_mnn_A nn) := decode_three 0xEA#8 (congrArg Instr.ld_mnn_A (word16_hi8_lo8 nn)) rfl
theorem unassigned_EB : Statement .unassigned_EB := decode_one (fun _ _ => rfl) rfl
theorem unassigned_EC : Statement .unassigned_EC := decode_one (fun _ _ => rfl) rfl
theorem unassigned_ED : Statement .unassigned_ED := decode_one (fun _ _ => rfl) rfl
theorem xor_n (n : Byte) : Statement (.xor_n n) := decode_two (fun _ => rfl) rfl
theorem rst_28H : Statement .rst_28H := decode_one (fun _ _ => rfl) rfl
theorem ldh_A_mn (n : Byte) : Statement (.ldh_A_mn n) := decode_two (fun _ => rfl) rfl
theorem pop_AF : Statement .pop_AF := decode_one (fun _ _ => rfl) rfl
theorem ldh_A_mC : Statement .ldh_A_mC := decode_one (fun _ _ => rfl) rfl
theorem di : Statement .di := decode_one (fun _ _ => rfl) rfl
theorem unassigned_F4 : Statement .unassigned_F4 := decode_one (fun _ _ => rfl) rfl
theorem push_AF : Statement .push_AF := decode_one (fun _ _ => rfl) rfl
theorem or_n (n : Byte) : Statement (.or_n n) := decode_two (fun _ => rfl) rfl
theorem rst_30H : Statement .rst_30H := decode_one (fun _ _ => rfl) rfl
theorem ld_HL_SPe (e : Byte) : Statement (.ld_HL_SPe e) := decode_two (fun _ => rfl) rfl
theorem ld_SP_HL : Statement .ld_SP_HL := decode_one (fun _ _ => rfl) rfl
theorem ld_A_mnn (nn : Word) : Statement (.ld_A_mnn nn) := decode_three 0xFA#8 (congrArg Instr.ld_A_mnn (word16_hi8_lo8 nn)) rfl
theorem ei : Statement .ei := decode_one (fun _ _ => rfl) rfl
theorem unassigned_FC : Statement .unassigned_FC := decode_one (fun _ _ => rfl) rfl
theorem unassigned_FD : Statement .unassigned_FD := decode_one (fun _ _ => rfl) rfl
theorem cp_n (n : Byte) : Statement (.cp_n n) := decode_two (fun _ => rfl) rfl
theorem rst_38H : Statement .rst_38H := decode_one (fun _ _ => rfl) rfl
theorem rlc_B : Statement .rlc_B := decode_two (fun _ => rfl) rfl
theorem rlc_C : Statement .rlc_C := decode_two (fun _ => rfl) rfl
theorem rlc_D : Statement .rlc_D := decode_two (fun _ => rfl) rfl
theorem rlc_E : Statement .rlc_E := decode_two (fun _ => rfl) rfl
theorem rlc_H : Statement .rlc_H := decode_two (fun _ => rfl) rfl
theorem rlc_L : Statement .rlc_L := decode_two (fun _ => rfl) rfl
theorem rlc_mHL : Statement .rlc_mHL := decode_two (fun _ => rfl) rfl
theorem rlc_A : Statement .rlc_A := decode_two (fun _ => rfl) rfl
theorem rrc_B : Statement .rrc_B := decode_two (fun _ => rfl) rfl
theorem rrc_C : Statement .rrc_C := decode_two (fun _ => rfl) rfl
theorem rrc_D : Statement .rrc_D := decode_two (fun _ => rfl) rfl
theorem rrc_E : Statement .rrc_E := decode_two (fun _ => rfl) rfl
theorem rrc_H : Statement .rrc_H := decode_two (fun _ => rfl) rfl
theorem rrc_L : Statement .rrc_L := decode_two (fun _ => rfl) rfl
theorem rrc_mHL : Statement .rrc_mHL := decode_two (fun _ => rfl) rfl
theorem rrc_A : Statement .rrc_A := decode_two (fun _ => rfl) rfl
theorem rl_B : Statement .rl_B := decode_two (fun _ => rfl) rfl
theorem rl_C : Statement .rl_C := decode_two (fun _ => rfl) rfl
theorem rl_D : Statement .rl_D := decode_two (fun _ => rfl) rfl
theorem rl_E : Statement .rl_E := decode_two (fun _ => rfl) rfl
theorem rl_H : Statement .rl_H := decode_two (fun _ => rfl) rfl
theorem rl_L : Statement .rl_L := decode_two (fun _ => rfl) rfl
theorem rl_mHL : Statement .rl_mHL := decode_two (fun _ => rfl) rfl
theorem rl_A : Statement .rl_A := decode_two (fun _ => rfl) rfl
theorem rr_B : Statement .rr_B := decode_two (fun _ => rfl) rfl
theorem rr_C : Statement .rr_C := decode_two (fun _ => rfl) rfl
theorem rr_D : Statement .rr_D := decode_two (fun _ => rfl) rfl
theorem rr_E : Statement .rr_E := decode_two (fun _ => rfl) rfl
theorem rr_H : Statement .rr_H := decode_two (fun _ => rfl) rfl
theorem rr_L : Statement .rr_L := decode_two (fun _ => rfl) rfl
theorem rr_mHL : Statement .rr_mHL := decode_two (fun _ => rfl) rfl
theorem rr_A : Statement .rr_A := decode_two (fun _ => rfl) rfl
theorem sla_B : Statement .sla_B := decode_two (fun _ => rfl) rfl
theorem sla_C : Statement .sla_C := decode_two (fun _ => rfl) rfl
theorem sla_D : Statement .sla_D := decode_two (fun _ => rfl) rfl
theorem sla_E : Statement .sla_E := decode_two (fun _ => rfl) rfl
theorem sla_H : Statement .sla_H := decode_two (fun _ => rfl) rfl
theorem sla_L : Statement .sla_L := decode_two (fun _ => rfl) rfl
theorem sla_mHL : Statement .sla_mHL := decode_two (fun _ => rfl) rfl
theorem sla_A : Statement .sla_A := decode_two (fun _ => rfl) rfl
theorem sra_B : Statement .sra_B := decode_two (fun _ => rfl) rfl
theorem sra_C : Statement .sra_C := decode_two (fun _ => rfl) rfl
theorem sra_D : Statement .sra_D := decode_two (fun _ => rfl) rfl
theorem sra_E : Statement .sra_E := decode_two (fun _ => rfl) rfl
theorem sra_H : Statement .sra_H := decode_two (fun _ => rfl) rfl
theorem sra_L : Statement .sra_L := decode_two (fun _ => rfl) rfl
theorem sra_mHL : Statement .sra_mHL := decode_two (fun _ => rfl) rfl
theorem sra_A : Statement .sra_A := decode_two (fun _ => rfl) rfl
theorem swap_B : Statement .swap_B := decode_two (fun _ => rfl) rfl
theorem swap_C : Statement .swap_C := decode_two (fun _ => rfl) rfl
theorem swap_D : Statement .swap_D := decode_two (fun _ => rfl) rfl
theorem swap_E : Statement .swap_E := decode_two (fun _ => rfl) rfl
theorem swap_H : Statement .swap_H := decode_two (fun _ => rfl) rfl
theorem swap_L : Statement .swap_L := decode_two (fun _ => rfl) rfl
theorem swap_mHL : Statement .swap_mHL := decode_two (fun _ => rfl) rfl
theorem swap_A : Statement .swap_A := decode_two (fun _ => rfl) rfl
theorem srl_B : Statement .srl_B := decode_two (fun _ => rfl) rfl
theorem srl_C : Statement .srl_C := decode_two (fun _ => rfl) rfl
theorem srl_D : Statement .srl_D := decode_two (fun _ => rfl) rfl
theorem srl_E : Statement .srl_E := decode_two (fun _ => rfl) rfl
theorem srl_H : Statement .srl_H := decode_two (fun _ => rfl) rfl
theorem srl_L : Statement .srl_L := decode_two (fun _ => rfl) rfl
theorem srl_mHL : Statement .srl_mHL := decode_two (fun _ => rfl) rfl
theorem srl_A : Statement .srl_A := decode_two (fun _ => rfl) rfl
theorem bit_0_B : Statement .bit_0_B := decode_two (fun _ => rfl) rfl
theorem bit_0_C : Statement .bit_0_C := decode_two (fun _ => rfl) rfl
theorem bit_0_D : Statement .bit_0_D := decode_two (fun _ => rfl) rfl
theorem bit_0_E : Statement .bit_0_E := decode_two (fun _ => rfl) rfl
theorem bit_0_H : Statement .bit_0_H := decode_two (fun _ => rfl) rfl
theorem bit_0_L : Statement .bit_0_L := decode_two (fun _ => rfl) rfl
theorem bit_0_mHL : Statement .bit_0_mHL := decode_two (fun _ => rfl) rfl
theorem bit_0_A : Statement .bit_0_A := decode_two (fun _ => rfl) rfl
theorem bit_1_B : Statement .bit_1_B := decode_two (fun _ => rfl) rfl
theorem bit_1_C : Statement .bit_1_C := decode_two (fun _ => rfl) rfl
theorem bit_1_D : Statement .bit_1_D := decode_two (fun _ => rfl) rfl
theorem bit_1_E : Statement .bit_1_E := decode_two (fun _ => rfl) rfl
theorem bit_1_H : Statement .bit_1_H := decode_two (fun _ => rfl) rfl
theorem bit_1_L : Statement .bit_1_L := decode_two (fun _ => rfl) rfl
theorem bit_1_mHL : Statement .bit_1_mHL := decode_two (fun _ => rfl) rfl
theorem bit_1_A : Statement .bit_1_A := decode_two (fun _ => rfl) rfl
theorem bit_2_B : Statement .bit_2_B := decode_two (fun _ => rfl) rfl
theorem bit_2_C : Statement .bit_2_C := decode_two (fun _ => rfl) rfl
theorem bit_2_D : Statement .bit_2_D := decode_two (fun _ => rfl) rfl
theorem bit_2_E : Statement .bit_2_E := decode_two (fun _ => rfl) rfl
theorem bit_2_H : Statement .bit_2_H := decode_two (fun _ => rfl) rfl
theorem bit_2_L : Statement .bit_2_L := decode_two (fun _ => rfl) rfl
theorem bit_2_mHL : Statement .bit_2_mHL := decode_two (fun _ => rfl) rfl
theorem bit_2_A : Statement .bit_2_A := decode_two (fun _ => rfl) rfl
theorem bit_3_B : Statement .bit_3_B := decode_two (fun _ => rfl) rfl
theorem bit_3_C : Statement .bit_3_C := decode_two (fun _ => rfl) rfl
theorem bit_3_D : Statement .bit_3_D := decode_two (fun _ => rfl) rfl
theorem bit_3_E : Statement .bit_3_E := decode_two (fun _ => rfl) rfl
theorem bit_3_H : Statement .bit_3_H := decode_two (fun _ => rfl) rfl
theorem bit_3_L : Statement .bit_3_L := decode_two (fun _ => rfl) rfl
theorem bit_3_mHL : Statement .bit_3_mHL := decode_two (fun _ => rfl) rfl
theorem bit_3_A : Statement .bit_3_A := decode_two (fun _ => rfl) rfl
theorem bit_4_B : Statement .bit_4_B := decode_two (fun _ => rfl) rfl
theorem bit_4_C : Statement .bit_4_C := decode_two (fun _ => rfl) rfl
theorem bit_4_D : Statement .bit_4_D := decode_two (fun _ => rfl) rfl
theorem bit_4_E : Statement .bit_4_E := decode_two (fun _ => rfl) rfl
theorem bit_4_H : Statement .bit_4_H := decode_two (fun _ => rfl) rfl
theorem bit_4_L : Statement .bit_4_L := decode_two (fun _ => rfl) rfl
theorem bit_4_mHL : Statement .bit_4_mHL := decode_two (fun _ => rfl) rfl
theorem bit_4_A : Statement .bit_4_A := decode_two (fun _ => rfl) rfl
theorem bit_5_B : Statement .bit_5_B := decode_two (fun _ => rfl) rfl
theorem bit_5_C : Statement .bit_5_C := decode_two (fun _ => rfl) rfl
theorem bit_5_D : Statement .bit_5_D := decode_two (fun _ => rfl) rfl
theorem bit_5_E : Statement .bit_5_E := decode_two (fun _ => rfl) rfl
theorem bit_5_H : Statement .bit_5_H := decode_two (fun _ => rfl) rfl
theorem bit_5_L : Statement .bit_5_L := decode_two (fun _ => rfl) rfl
theorem bit_5_mHL : Statement .bit_5_mHL := decode_two (fun _ => rfl) rfl
theorem bit_5_A : Statement .bit_5_A := decode_two (fun _ => rfl) rfl
theorem bit_6_B : Statement .bit_6_B := decode_two (fun _ => rfl) rfl
theorem bit_6_C : Statement .bit_6_C := decode_two (fun _ => rfl) rfl
theorem bit_6_D : Statement .bit_6_D := decode_two (fun _ => rfl) rfl
theorem bit_6_E : Statement .bit_6_E := decode_two (fun _ => rfl) rfl
theorem bit_6_H : Statement .bit_6_H := decode_two (fun _ => rfl) rfl
theorem bit_6_L : Statement .bit_6_L := decode_two (fun _ => rfl) rfl
theorem bit_6_mHL : Statement .bit_6_mHL := decode_two (fun _ => rfl) rfl
theorem bit_6_A : Statement .bit_6_A := decode_two (fun _ => rfl) rfl
theorem bit_7_B : Statement .bit_7_B := decode_two (fun _ => rfl) rfl
theorem bit_7_C : Statement .bit_7_C := decode_two (fun _ => rfl) rfl
theorem bit_7_D : Statement .bit_7_D := decode_two (fun _ => rfl) rfl
theorem bit_7_E : Statement .bit_7_E := decode_two (fun _ => rfl) rfl
theorem bit_7_H : Statement .bit_7_H := decode_two (fun _ => rfl) rfl
theorem bit_7_L : Statement .bit_7_L := decode_two (fun _ => rfl) rfl
theorem bit_7_mHL : Statement .bit_7_mHL := decode_two (fun _ => rfl) rfl
theorem bit_7_A : Statement .bit_7_A := decode_two (fun _ => rfl) rfl
theorem res_0_B : Statement .res_0_B := decode_two (fun _ => rfl) rfl
theorem res_0_C : Statement .res_0_C := decode_two (fun _ => rfl) rfl
theorem res_0_D : Statement .res_0_D := decode_two (fun _ => rfl) rfl
theorem res_0_E : Statement .res_0_E := decode_two (fun _ => rfl) rfl
theorem res_0_H : Statement .res_0_H := decode_two (fun _ => rfl) rfl
theorem res_0_L : Statement .res_0_L := decode_two (fun _ => rfl) rfl
theorem res_0_mHL : Statement .res_0_mHL := decode_two (fun _ => rfl) rfl
theorem res_0_A : Statement .res_0_A := decode_two (fun _ => rfl) rfl
theorem res_1_B : Statement .res_1_B := decode_two (fun _ => rfl) rfl
theorem res_1_C : Statement .res_1_C := decode_two (fun _ => rfl) rfl
theorem res_1_D : Statement .res_1_D := decode_two (fun _ => rfl) rfl
theorem res_1_E : Statement .res_1_E := decode_two (fun _ => rfl) rfl
theorem res_1_H : Statement .res_1_H := decode_two (fun _ => rfl) rfl
theorem res_1_L : Statement .res_1_L := decode_two (fun _ => rfl) rfl
theorem res_1_mHL : Statement .res_1_mHL := decode_two (fun _ => rfl) rfl
theorem res_1_A : Statement .res_1_A := decode_two (fun _ => rfl) rfl
theorem res_2_B : Statement .res_2_B := decode_two (fun _ => rfl) rfl
theorem res_2_C : Statement .res_2_C := decode_two (fun _ => rfl) rfl
theorem res_2_D : Statement .res_2_D := decode_two (fun _ => rfl) rfl
theorem res_2_E : Statement .res_2_E := decode_two (fun _ => rfl) rfl
theorem res_2_H : Statement .res_2_H := decode_two (fun _ => rfl) rfl
theorem res_2_L : Statement .res_2_L := decode_two (fun _ => rfl) rfl
theorem res_2_mHL : Statement .res_2_mHL := decode_two (fun _ => rfl) rfl
theorem res_2_A : Statement .res_2_A := decode_two (fun _ => rfl) rfl
theorem res_3_B : Statement .res_3_B := decode_two (fun _ => rfl) rfl
theorem res_3_C : Statement .res_3_C := decode_two (fun _ => rfl) rfl
theorem res_3_D : Statement .res_3_D := decode_two (fun _ => rfl) rfl
theorem res_3_E : Statement .res_3_E := decode_two (fun _ => rfl) rfl
theorem res_3_H : Statement .res_3_H := decode_two (fun _ => rfl) rfl
theorem res_3_L : Statement .res_3_L := decode_two (fun _ => rfl) rfl
theorem res_3_mHL : Statement .res_3_mHL := decode_two (fun _ => rfl) rfl
theorem res_3_A : Statement .res_3_A := decode_two (fun _ => rfl) rfl
theorem res_4_B : Statement .res_4_B := decode_two (fun _ => rfl) rfl
theorem res_4_C : Statement .res_4_C := decode_two (fun _ => rfl) rfl
theorem res_4_D : Statement .res_4_D := decode_two (fun _ => rfl) rfl
theorem res_4_E : Statement .res_4_E := decode_two (fun _ => rfl) rfl
theorem res_4_H : Statement .res_4_H := decode_two (fun _ => rfl) rfl
theorem res_4_L : Statement .res_4_L := decode_two (fun _ => rfl) rfl
theorem res_4_mHL : Statement .res_4_mHL := decode_two (fun _ => rfl) rfl
theorem res_4_A : Statement .res_4_A := decode_two (fun _ => rfl) rfl
theorem res_5_B : Statement .res_5_B := decode_two (fun _ => rfl) rfl
theorem res_5_C : Statement .res_5_C := decode_two (fun _ => rfl) rfl
theorem res_5_D : Statement .res_5_D := decode_two (fun _ => rfl) rfl
theorem res_5_E : Statement .res_5_E := decode_two (fun _ => rfl) rfl
theorem res_5_H : Statement .res_5_H := decode_two (fun _ => rfl) rfl
theorem res_5_L : Statement .res_5_L := decode_two (fun _ => rfl) rfl
theorem res_5_mHL : Statement .res_5_mHL := decode_two (fun _ => rfl) rfl
theorem res_5_A : Statement .res_5_A := decode_two (fun _ => rfl) rfl
theorem res_6_B : Statement .res_6_B := decode_two (fun _ => rfl) rfl
theorem res_6_C : Statement .res_6_C := decode_two (fun _ => rfl) rfl
theorem res_6_D : Statement .res_6_D := decode_two (fun _ => rfl) rfl
theorem res_6_E : Statement .res_6_E := decode_two (fun _ => rfl) rfl
theorem res_6_H : Statement .res_6_H := decode_two (fun _ => rfl) rfl
theorem res_6_L : Statement .res_6_L := decode_two (fun _ => rfl) rfl
theorem res_6_mHL : Statement .res_6_mHL := decode_two (fun _ => rfl) rfl
theorem res_6_A : Statement .res_6_A := decode_two (fun _ => rfl) rfl
theorem res_7_B : Statement .res_7_B := decode_two (fun _ => rfl) rfl
theorem res_7_C : Statement .res_7_C := decode_two (fun _ => rfl) rfl
theorem res_7_D : Statement .res_7_D := decode_two (fun _ => rfl) rfl
theorem res_7_E : Statement .res_7_E := decode_two (fun _ => rfl) rfl
theorem res_7_H : Statement .res_7_H := decode_two (fun _ => rfl) rfl
theorem res_7_L : Statement .res_7_L := decode_two (fun _ => rfl) rfl
theorem res_7_mHL : Statement .res_7_mHL := decode_two (fun _ => rfl) rfl
theorem res_7_A : Statement .res_7_A := decode_two (fun _ => rfl) rfl
theorem set_0_B : Statement .set_0_B := decode_two (fun _ => rfl) rfl
theorem set_0_C : Statement .set_0_C := decode_two (fun _ => rfl) rfl
theorem set_0_D : Statement .set_0_D := decode_two (fun _ => rfl) rfl
theorem set_0_E : Statement .set_0_E := decode_two (fun _ => rfl) rfl
theorem set_0_H : Statement .set_0_H := decode_two (fun _ => rfl) rfl
theorem set_0_L : Statement .set_0_L := decode_two (fun _ => rfl) rfl
theorem set_0_mHL : Statement .set_0_mHL := decode_two (fun _ => rfl) rfl
theorem set_0_A : Statement .set_0_A := decode_two (fun _ => rfl) rfl
theorem set_1_B : Statement .set_1_B := decode_two (fun _ => rfl) rfl
theorem set_1_C : Statement .set_1_C := decode_two (fun _ => rfl) rfl
theorem set_1_D : Statement .set_1_D := decode_two (fun _ => rfl) rfl
theorem set_1_E : Statement .set_1_E := decode_two (fun _ => rfl) rfl
theorem set_1_H : Statement .set_1_H := decode_two (fun _ => rfl) rfl
theorem set_1_L : Statement .set_1_L := decode_two (fun _ => rfl) rfl
theorem set_1_mHL : Statement .set_1_mHL := decode_two (fun _ => rfl) rfl
theorem set_1_A : Statement .set_1_A := decode_two (fun _ => rfl) rfl
theorem set_2_B : Statement .set_2_B := decode_two (fun _ => rfl) rfl
theorem set_2_C : Statement .set_2_C := decode_two (fun _ => rfl) rfl
theorem set_2_D : Statement .set_2_D := decode_two (fun _ => rfl) rfl
theorem set_2_E : Statement .set_2_E := decode_two (fun _ => rfl) rfl
theorem set_2_H : Statement .set_2_H := decode_two (fun _ => rfl) rfl
theorem set_2_L : Statement .set_2_L := decode_two (fun _ => rfl) rfl
theorem set_2_mHL : Statement .set_2_mHL := decode_two (fun _ => rfl) rfl
theorem set_2_A : Statement .set_2_A := decode_two (fun _ => rfl) rfl
theorem set_3_B : Statement .set_3_B := decode_two (fun _ => rfl) rfl
theorem set_3_C : Statement .set_3_C := decode_two (fun _ => rfl) rfl
theorem set_3_D : Statement .set_3_D := decode_two (fun _ => rfl) rfl
theorem set_3_E : Statement .set_3_E := decode_two (fun _ => rfl) rfl
theorem set_3_H : Statement .set_3_H := decode_two (fun _ => rfl) rfl
theorem set_3_L : Statement .set_3_L := decode_two (fun _ => rfl) rfl
theorem set_3_mHL : Statement .set_3_mHL := decode_two (fun _ => rfl) rfl
theorem set_3_A : Statement .set_3_A := decode_two (fun _ => rfl) rfl
theorem set_4_B : Statement .set_4_B := decode_two (fun _ => rfl) rfl
theorem set_4_C : Statement .set_4_C := decode_two (fun _ => rfl) rfl
theorem set_4_D : Statement .set_4_D := decode_two (fun _ => rfl) rfl
theorem set_4_E : Statement .set_4_E := decode_two (fun _ => rfl) rfl
theorem set_4_H : Statement .set_4_H := decode_two (fun _ => rfl) rfl
theorem set_4_L : Statement .set_4_L := decode_two (fun _ => rfl) rfl
theorem set_4_mHL : Statement .set_4_mHL := decode_two (fun _ => rfl) rfl
theorem set_4_A : Statement .set_4_A := decode_two (fun _ => rfl) rfl
theorem set_5_B : Statement .set_5_B := decode_two (fun _ => rfl) rfl
theorem set_5_C : Statement .set_5_C := decode_two (fun _ => rfl) rfl
theorem set_5_D : Statement .set_5_D := decode_two (fun _ => rfl) rfl
theorem set_5_E : Statement .set_5_E := decode_two (fun _ => rfl) rfl
theorem set_5_H : Statement .set_5_H := decode_two (fun _ => rfl) rfl
theorem set_5_L : Statement .set_5_L := decode_two (fun _ => rfl) rfl
theorem set_5_mHL : Statement .set_5_mHL := decode_two (fun _ => rfl) rfl
theorem set_5_A : Statement .set_5_A := decode_two (fun _ => rfl) rfl
theorem set_6_B : Statement .set_6_B := decode_two (fun _ => rfl) rfl
theorem set_6_C : Statement .set_6_C := decode_two (fun _ => rfl) rfl
theorem set_6_D : Statement .set_6_D := decode_two (fun _ => rfl) rfl
theorem set_6_E : Statement .set_6_E := decode_two (fun _ => rfl) rfl
theorem set_6_H : Statement .set_6_H := decode_two (fun _ => rfl) rfl
theorem set_6_L : Statement .set_6_L := decode_two (fun _ => rfl) rfl
theorem set_6_mHL : Statement .set_6_mHL := decode_two (fun _ => rfl) rfl
theorem set_6_A : Statement .set_6_A := decode_two (fun _ => rfl) rfl
theorem set_7_B : Statement .set_7_B := decode_two (fun _ => rfl) rfl
theorem set_7_C : Statement .set_7_C := decode_two (fun _ => rfl) rfl
theorem set_7_D : Statement .set_7_D := decode_two (fun _ => rfl) rfl
theorem set_7_E : Statement .set_7_E := decode_two (fun _ => rfl) rfl
theorem set_7_H : Statement .set_7_H := decode_two (fun _ => rfl) rfl
theorem set_7_L : Statement .set_7_L := decode_two (fun _ => rfl) rfl
theorem set_7_mHL : Statement .set_7_mHL := decode_two (fun _ => rfl) rfl
theorem set_7_A : Statement .set_7_A := decode_two (fun _ => rfl) rfl

end Sys2Proof.Laws.RoundTrip
end

