-- ==== Sys2Proof/Laws/Regions.lean ====
section
/-!
SUPPORT. The dispatcher region by region (spec 20 R60), the I/O page by its offsets (R84), and the storage cells reads
and writes reach. They are cited instead of unfolding `busTarget`, `memRead` or `memWrite`.
-/
namespace Sys2Proof.Machine

/-! ### The regions -/

theorem busTarget_romFixed {s : State} {a : Word} (h : a.toNat < 0x4000) : busTarget s a = .romFixed := by
  unfold busTarget; dsimp only; rw [if_pos h]

theorem busTarget_romSwitchable {s : State} {a : Word} (h : 0x4000 ≤ a.toNat) (h' : a.toNat < 0x8000) :
    busTarget s a = .romSwitchable := by
  unfold busTarget; dsimp only; repeat rw [if_neg (by omega)]
  rw [if_pos h']

theorem busTarget_vram {s : State} {a : Word} (h : 0x8000 ≤ a.toNat) (h' : a.toNat < 0xA000) :
    busTarget s a = .cell (.vram (vramBank s) (a.setWidth 13)) := by
  unfold busTarget; dsimp only; repeat rw [if_neg (by omega)]
  rw [if_pos h']

theorem busTarget_cartRam {s : State} {a : Word} (h : 0xA000 ≤ a.toNat) (h' : a.toNat < 0xC000) :
    busTarget s a = .cartRam := by
  unfold busTarget; dsimp only; repeat rw [if_neg (by omega)]
  rw [if_pos h']

theorem busTarget_wram {s : State} {a : Word} (h : 0xC000 ≤ a.toNat) (h' : a.toNat < 0xE000) :
    busTarget s a = wramTarget s a := by
  unfold busTarget; dsimp only; repeat rw [if_neg (by omega)]
  rw [if_pos h']

theorem busTarget_echo {s : State} {a : Word} (h : 0xE000 ≤ a.toNat) (h' : a.toNat < 0xFE00) :
    busTarget s a = wramTarget s (a - 0x2000#16) := by
  unfold busTarget; dsimp only; repeat rw [if_neg (by omega)]
  rw [if_pos h']

theorem busTarget_oam {s : State} {a : Word} (h : 0xFE00 ≤ a.toNat) (h' : a.toNat < 0xFEA0) :
    busTarget s a = .cell (.oam (a.setWidth 8)) := by
  unfold busTarget; dsimp only; repeat rw [if_neg (by omega)]
  rw [if_pos h']

theorem busTarget_unusable {s : State} {a : Word} (h : 0xFEA0 ≤ a.toNat) (h' : a.toNat < 0xFF00) :
    busTarget s a = .nothing := by
  unfold busTarget; dsimp only; repeat rw [if_neg (by omega)]
  rw [if_pos h']

theorem busTarget_io {s : State} {a : Word} (h : 0xFF00 ≤ a.toNat) (h' : a.toNat < 0xFF80) :
    busTarget s a = ioTarget (a.toNat - 0xFF00) := by
  unfold busTarget; dsimp only; repeat rw [if_neg (by omega)]
  rw [if_pos h']

theorem busTarget_hram {s : State} {a : Word} (h : 0xFF80 ≤ a.toNat) (h' : a.toNat < 0xFFFF) :
    busTarget s a = .cell (.hram (a.setWidth 7)) := by
  unfold busTarget; dsimp only; repeat rw [if_neg (by omega)]
  rw [if_pos h']

theorem busTarget_ie {s : State} {a : Word} (h : 0xFFFF ≤ a.toNat) : busTarget s a = .ieReg := by
  unfold busTarget; dsimp only; repeat rw [if_neg (by omega)]

/-- The I/O page by offset, over the list of NAMED. -/
theorem ioTarget_spec : ∀ i : Fin 0x80, ioTarget i.val =
    if i.val ∉ namedIo then .nothing
    else if i.val = 0x0F then .ifReg
    else if i.val = 0x4F then .vbk
    else if i.val = 0x70 then .svbk
    else .cell (.io (BitVec.ofNat 7 i.val)) := by decide

/-! ### Cells -/

theorem romByte_of_some {s : State} {bank off j : Nat} (h : romIndex s.cart bank off = some j) :
    romByte s bank off = cellByte s (.rom j) := by
  unfold romByte cellByte; rw [h]

theorem romByte_of_none {s : State} {bank off : Nat} (h : romIndex s.cart bank off = none) :
    romByte s bank off = 0xFF#8 := by
  unfold romByte; rw [h]

theorem romByte_of_map {s : State} {bank off : Nat} {x : Loc} (h : (romIndex s.cart bank off).map Loc.rom = some x) :
    romByte s bank off = cellByte s x := by
  cases e : romIndex s.cart bank off with
  | none => rw [e] at h; exact nomatch h
  | some j => rw [e] at h; cases h; exact romByte_of_some e

theorem romByte_poke_of_map {s : State} {bank off : Nat} {x : Loc} {b : Byte}
    (h : (romIndex s.cart bank off).map Loc.rom = none) : romByte (s.poke x b) bank off = romByte s bank off := by
  cases e : romIndex s.cart bank off with
  | some j => rw [e] at h; exact nomatch h
  | none => rw [romByte_of_none e, romByte_of_none (s := s.poke x b) e]

/-- A read whose byte comes from a cell gives that cell's byte. -/
theorem memRead_of_readCell {s : State} {a : Word} {x : Loc} (h : readCell s a = some x) :
    memRead s a = cellByte s x := by
  unfold readCell at h; unfold memRead
  cases hb : busTarget s a <;> rw [hb] at h
  · exact romByte_of_map h
  · exact romByte_of_map h
  · dsimp only at h ⊢
    unfold mbcReadRam
    cases hm : mbcRamTarget s.cart s.mbc <;> rw [hm] at h <;> cases h
    rfl
  · cases h; rfl
  all_goals exact nomatch h

/-- A write stores where a read of the same address reads. -/
theorem readCell_of_storeCell {s : State} {a : Word} {x : Loc} (h : storeCell s a = some x) : readCell s a = some x := by
  unfold storeCell at h; unfold readCell
  cases hb : busTarget s a <;> rw [hb] at h <;> dsimp only at h ⊢ <;> first | exact h | exact nomatch h

theorem memWrite_of_storeCell {s : State} {a : Word} {x : Loc} (b : Byte) (h : storeCell s a = some x) :
    memWrite s a b = s.poke x b := by
  rcases memWrite_cases s a b with ⟨hn, -⟩ | ⟨y, hy, -, hw⟩ | ⟨hn, -⟩ | ⟨hn, -⟩ | ⟨hn, -⟩ | ⟨hn, -⟩ | ⟨hn, -⟩
  all_goals first | (rw [hn] at h; exact nomatch h) | skip
  rw [h] at hy
  cases hy
  exact hw

theorem busTarget_poke (s : State) (x : Loc) (b : Byte) (a : Word) : busTarget (s.poke x b) a = busTarget s a := by
  have hv : vramBank (s.poke x b) = vramBank s := rfl
  have hw : wramBank (s.poke x b) = wramBank s := rfl
  unfold busTarget wramTarget
  rw [hv, hw]

theorem readCell_poke (s : State) (x : Loc) (b : Byte) (a : Word) : readCell (s.poke x b) a = readCell s a := by
  unfold readCell; rw [busTarget_poke]; rfl

/-- A cell written raw is read by the addresses that read it, and by no other. -/
theorem memRead_poke_other {s : State} (h : s.mem.wf = true) (x : Loc) (b : Byte) (a : Word)
    (hx : readCell s a ≠ some x) : memRead (s.poke x b) a = memRead s a := by
  cases e : readCell s a with
  | some y =>
    rw [memRead_of_readCell (s := s.poke x b) ((readCell_poke s x b a).trans e), memRead_of_readCell e,
      cellByte_poke h, if_neg]
    exact fun he => hx (he ▸ e)
  | none =>
    unfold readCell at e
    unfold memRead
    rw [busTarget_poke s x b a]
    cases hb : busTarget s a <;> rw [hb] at e <;> dsimp only at e ⊢ <;> try rfl
    · exact romByte_poke_of_map e
    · exact romByte_poke_of_map e
    · unfold mbcReadRam
      rw [State.poke_cart, State.poke_mbc]
      cases hm : mbcRamTarget s.cart s.mbc <;> rw [hm] at e <;> first | rfl | exact nomatch e
    · exact nomatch e

end Sys2Proof.Machine
end

