-- ==== Sys2Proof/Tests/Slice0.lean ====
section
/-!
SUPPORT. The model's own tests. Expected results are the spec's: the opcode map of 30 R167 and R168, and the worked
vectors of 95. The second part holds a witness for every statement that has hypotheses: a state and operands that meet
them, at the boundary values where clauses meet.
-/
namespace Sys2Proof.Tests
open Sys2Proof Sys2Proof.Machine

/-! ### Well-formedness: the eleven unassigned bytes are the ill-formed terms (30 R169) -/

theorem test_ill_formed_D3 : Instr.wellFormed .unassigned_D3 = false := by decide
theorem test_ill_formed_DB : Instr.wellFormed .unassigned_DB = false := by decide
theorem test_ill_formed_DD : Instr.wellFormed .unassigned_DD = false := by decide
theorem test_ill_formed_E3 : Instr.wellFormed .unassigned_E3 = false := by decide
theorem test_ill_formed_E4 : Instr.wellFormed .unassigned_E4 = false := by decide
theorem test_ill_formed_EB : Instr.wellFormed .unassigned_EB = false := by decide
theorem test_ill_formed_EC : Instr.wellFormed .unassigned_EC = false := by decide
theorem test_ill_formed_ED : Instr.wellFormed .unassigned_ED = false := by decide
theorem test_ill_formed_F4 : Instr.wellFormed .unassigned_F4 = false := by decide
theorem test_ill_formed_FC : Instr.wellFormed .unassigned_FC = false := by decide
theorem test_ill_formed_FD : Instr.wellFormed .unassigned_FD = false := by decide

/-! ### The opcode map, row by row (30 R167): immediate bytes 34 and 12 -/

/-- The sixteen rows whose first byte has high nibble `hi`. -/
def baseRow (hi : Nat) : List Instr :=
  (List.range 16).map (fun lo => decodeBytes (BitVec.ofNat 8 (16 * hi + lo)) 0x34#8 0x12#8)

/-- The sixteen rows whose second byte, after CB, has high nibble `hi`. -/
def cbRow (hi : Nat) : List Instr :=
  (List.range 16).map (fun lo => decodeBytes 0xCB#8 (BitVec.ofNat 8 (16 * hi + lo)) 0x00#8)

theorem test_base_row_0 : baseRow 0x0 =
    [.nop, .ld_BC_nn 0x1234#16, .ld_mBC_A, .inc_BC, .inc_B, .dec_B,
      .ld_B_n 0x34#8, .rlca, .ld_mnn_SP 0x1234#16, .add_HL_BC, .ld_A_mBC, .dec_BC, .inc_C, .dec_C,
      .ld_C_n 0x34#8, .rrca] := by decide
theorem test_base_row_1 : baseRow 0x1 =
    [.stop 0x34#8, .ld_DE_nn 0x1234#16, .ld_mDE_A, .inc_DE, .inc_D,
      .dec_D, .ld_D_n 0x34#8, .rla, .jr_e 0x34#8, .add_HL_DE, .ld_A_mDE, .dec_DE, .inc_E, .dec_E,
      .ld_E_n 0x34#8, .rra] := by decide
theorem test_base_row_2 : baseRow 0x2 =
    [.jr_NZ_e 0x34#8, .ld_HL_nn 0x1234#16, .ld_mHLinc_A, .inc_HL,
      .inc_H, .dec_H, .ld_H_n 0x34#8, .daa, .jr_Z_e 0x34#8, .add_HL_HL, .ld_A_mHLinc, .dec_HL, .inc_L, .dec_L,
      .ld_L_n 0x34#8, .cpl] := by decide
theorem test_base_row_3 : baseRow 0x3 =
    [.jr_NC_e 0x34#8, .ld_SP_nn 0x1234#16, .ld_mHLdec_A, .inc_SP,
      .inc_mHL, .dec_mHL, .ld_mHL_n 0x34#8, .scf, .jr_C_e 0x34#8, .add_HL_SP, .ld_A_mHLdec, .dec_SP, .inc_A,
      .dec_A, .ld_A_n 0x34#8, .ccf] := by decide
theorem test_base_row_4 : baseRow 0x4 =
    [.ld_B_B, .ld_B_C, .ld_B_D, .ld_B_E, .ld_B_H, .ld_B_L, .ld_B_mHL,
      .ld_B_A, .ld_C_B, .ld_C_C, .ld_C_D, .ld_C_E, .ld_C_H, .ld_C_L, .ld_C_mHL, .ld_C_A] := by decide
theorem test_base_row_5 : baseRow 0x5 =
    [.ld_D_B, .ld_D_C, .ld_D_D, .ld_D_E, .ld_D_H, .ld_D_L, .ld_D_mHL,
      .ld_D_A, .ld_E_B, .ld_E_C, .ld_E_D, .ld_E_E, .ld_E_H, .ld_E_L, .ld_E_mHL, .ld_E_A] := by decide
theorem test_base_row_6 : baseRow 0x6 =
    [.ld_H_B, .ld_H_C, .ld_H_D, .ld_H_E, .ld_H_H, .ld_H_L, .ld_H_mHL,
      .ld_H_A, .ld_L_B, .ld_L_C, .ld_L_D, .ld_L_E, .ld_L_H, .ld_L_L, .ld_L_mHL, .ld_L_A] := by decide
theorem test_base_row_7 : baseRow 0x7 =
    [.ld_mHL_B, .ld_mHL_C, .ld_mHL_D, .ld_mHL_E, .ld_mHL_H, .ld_mHL_L,
      .halt, .ld_mHL_A, .ld_A_B, .ld_A_C, .ld_A_D, .ld_A_E, .ld_A_H, .ld_A_L, .ld_A_mHL, .ld_A_A] := by decide
theorem test_base_row_8 : baseRow 0x8 =
    [.add_A_B, .add_A_C, .add_A_D, .add_A_E, .add_A_H, .add_A_L,
      .add_A_mHL, .add_A_A, .adc_A_B, .adc_A_C, .adc_A_D, .adc_A_E, .adc_A_H, .adc_A_L, .adc_A_mHL, .adc_A_A] := by decide
theorem test_base_row_9 : baseRow 0x9 =
    [.sub_B, .sub_C, .sub_D, .sub_E, .sub_H, .sub_L, .sub_mHL, .sub_A,
      .sbc_A_B, .sbc_A_C, .sbc_A_D, .sbc_A_E, .sbc_A_H, .sbc_A_L, .sbc_A_mHL, .sbc_A_A] := by decide
theorem test_base_row_A : baseRow 0xA =
    [.and_B, .and_C, .and_D, .and_E, .and_H, .and_L, .and_mHL, .and_A,
      .xor_B, .xor_C, .xor_D, .xor_E, .xor_H, .xor_L, .xor_mHL, .xor_A] := by decide
theorem test_base_row_B : baseRow 0xB =
    [.or_B, .or_C, .or_D, .or_E, .or_H, .or_L, .or_mHL, .or_A, .cp_B,
      .cp_C, .cp_D, .cp_E, .cp_H, .cp_L, .cp_mHL, .cp_A] := by decide
theorem test_base_row_C : baseRow 0xC =
    [.ret_NZ, .pop_BC, .jp_NZ_nn 0x1234#16, .jp_nn 0x1234#16,
      .call_NZ_nn 0x1234#16, .push_BC, .add_A_n 0x34#8, .rst_00H, .ret_Z, .ret, .jp_Z_nn 0x1234#16, .swap_H,
      .call_Z_nn 0x1234#16, .call_nn 0x1234#16, .adc_A_n 0x34#8, .rst_08H] := by decide
theorem test_base_row_D : baseRow 0xD =
    [.ret_NC, .pop_DE, .jp_NC_nn 0x1234#16, .unassigned_D3,
      .call_NC_nn 0x1234#16, .push_DE, .sub_n 0x34#8, .rst_10H, .ret_C, .reti, .jp_C_nn 0x1234#16,
      .unassigned_DB, .call_C_nn 0x1234#16, .unassigned_DD, .sbc_A_n 0x34#8, .rst_18H] := by decide
theorem test_base_row_E : baseRow 0xE =
    [.ldh_mn_A 0x34#8, .pop_HL, .ldh_mC_A, .unassigned_E3,
      .unassigned_E4, .push_HL, .and_n 0x34#8, .rst_20H, .add_SP_e 0x34#8, .jp_HL, .ld_mnn_A 0x1234#16,
      .unassigned_EB, .unassigned_EC, .unassigned_ED, .xor_n 0x34#8, .rst_28H] := by decide
theorem test_base_row_F : baseRow 0xF =
    [.ldh_A_mn 0x34#8, .pop_AF, .ldh_A_mC, .di, .unassigned_F4,
      .push_AF, .or_n 0x34#8, .rst_30H, .ld_HL_SPe 0x34#8, .ld_SP_HL, .ld_A_mnn 0x1234#16, .ei,
      .unassigned_FC, .unassigned_FD, .cp_n 0x34#8, .rst_38H] := by decide

/-! ### The extended table, by its patterns (30 R168, R171) -/

theorem test_cb_row_0 : cbRow 0x0 =
    [.rlc_B, .rlc_C, .rlc_D, .rlc_E, .rlc_H, .rlc_L, .rlc_mHL, .rlc_A,
      .rrc_B, .rrc_C, .rrc_D, .rrc_E, .rrc_H, .rrc_L, .rrc_mHL, .rrc_A] := by decide
theorem test_cb_row_1 : cbRow 0x1 =
    [.rl_B, .rl_C, .rl_D, .rl_E, .rl_H, .rl_L, .rl_mHL, .rl_A, .rr_B,
      .rr_C, .rr_D, .rr_E, .rr_H, .rr_L, .rr_mHL, .rr_A] := by decide
theorem test_cb_row_2 : cbRow 0x2 =
    [.sla_B, .sla_C, .sla_D, .sla_E, .sla_H, .sla_L, .sla_mHL, .sla_A,
      .sra_B, .sra_C, .sra_D, .sra_E, .sra_H, .sra_L, .sra_mHL, .sra_A] := by decide
theorem test_cb_row_3 : cbRow 0x3 =
    [.swap_B, .swap_C, .swap_D, .swap_E, .swap_H, .swap_L, .swap_mHL,
      .swap_A, .srl_B, .srl_C, .srl_D, .srl_E, .srl_H, .srl_L, .srl_mHL, .srl_A] := by decide
theorem test_cb_row_4 : cbRow 0x4 =
    [.bit_0_B, .bit_0_C, .bit_0_D, .bit_0_E, .bit_0_H, .bit_0_L,
      .bit_0_mHL, .bit_0_A, .bit_1_B, .bit_1_C, .bit_1_D, .bit_1_E, .bit_1_H, .bit_1_L, .bit_1_mHL, .bit_1_A] := by decide
theorem test_cb_row_5 : cbRow 0x5 =
    [.bit_2_B, .bit_2_C, .bit_2_D, .bit_2_E, .bit_2_H, .bit_2_L,
      .bit_2_mHL, .bit_2_A, .bit_3_B, .bit_3_C, .bit_3_D, .bit_3_E, .bit_3_H, .bit_3_L, .bit_3_mHL, .bit_3_A] := by decide
theorem test_cb_row_6 : cbRow 0x6 =
    [.bit_4_B, .bit_4_C, .bit_4_D, .bit_4_E, .bit_4_H, .bit_4_L,
      .bit_4_mHL, .bit_4_A, .bit_5_B, .bit_5_C, .bit_5_D, .bit_5_E, .bit_5_H, .bit_5_L, .bit_5_mHL, .bit_5_A] := by decide
theorem test_cb_row_7 : cbRow 0x7 =
    [.bit_6_B, .bit_6_C, .bit_6_D, .bit_6_E, .bit_6_H, .bit_6_L,
      .bit_6_mHL, .bit_6_A, .bit_7_B, .bit_7_C, .bit_7_D, .bit_7_E, .bit_7_H, .bit_7_L, .bit_7_mHL, .bit_7_A] := by decide
theorem test_cb_row_8 : cbRow 0x8 =
    [.res_0_B, .res_0_C, .res_0_D, .res_0_E, .res_0_H, .res_0_L,
      .res_0_mHL, .res_0_A, .res_1_B, .res_1_C, .res_1_D, .res_1_E, .res_1_H, .res_1_L, .res_1_mHL, .res_1_A] := by decide
theorem test_cb_row_9 : cbRow 0x9 =
    [.res_2_B, .res_2_C, .res_2_D, .res_2_E, .res_2_H, .res_2_L,
      .res_2_mHL, .res_2_A, .res_3_B, .res_3_C, .res_3_D, .res_3_E, .res_3_H, .res_3_L, .res_3_mHL, .res_3_A] := by decide
theorem test_cb_row_A : cbRow 0xA =
    [.res_4_B, .res_4_C, .res_4_D, .res_4_E, .res_4_H, .res_4_L,
      .res_4_mHL, .res_4_A, .res_5_B, .res_5_C, .res_5_D, .res_5_E, .res_5_H, .res_5_L, .res_5_mHL, .res_5_A] := by decide
theorem test_cb_row_B : cbRow 0xB =
    [.res_6_B, .res_6_C, .res_6_D, .res_6_E, .res_6_H, .res_6_L,
      .res_6_mHL, .res_6_A, .res_7_B, .res_7_C, .res_7_D, .res_7_E, .res_7_H, .res_7_L, .res_7_mHL, .res_7_A] := by decide
theorem test_cb_row_C : cbRow 0xC =
    [.set_0_B, .set_0_C, .set_0_D, .set_0_E, .set_0_H, .set_0_L,
      .set_0_mHL, .set_0_A, .set_1_B, .set_1_C, .set_1_D, .set_1_E, .set_1_H, .set_1_L, .set_1_mHL, .set_1_A] := by decide
theorem test_cb_row_D : cbRow 0xD =
    [.set_2_B, .set_2_C, .set_2_D, .set_2_E, .set_2_H, .set_2_L,
      .set_2_mHL, .set_2_A, .set_3_B, .set_3_C, .set_3_D, .set_3_E, .set_3_H, .set_3_L, .set_3_mHL, .set_3_A] := by decide
theorem test_cb_row_E : cbRow 0xE =
    [.set_4_B, .set_4_C, .set_4_D, .set_4_E, .set_4_H, .set_4_L,
      .set_4_mHL, .set_4_A, .set_5_B, .set_5_C, .set_5_D, .set_5_E, .set_5_H, .set_5_L, .set_5_mHL, .set_5_A] := by decide
theorem test_cb_row_F : cbRow 0xF =
    [.set_6_B, .set_6_C, .set_6_D, .set_6_E, .set_6_H, .set_6_L,
      .set_6_mHL, .set_6_A, .set_7_B, .set_7_C, .set_7_D, .set_7_E, .set_7_H, .set_7_L, .set_7_mHL, .set_7_A] := by decide

/-! ### Decoding lists of bytes, and the encoder -/

/-- The decoder answers `i` and leaves `rest`. -/
def decodesAs (bytes : List Byte) (i : Instr) (rest : List Byte) : Bool :=
  match decode bytes with
  | .ok (j, r) => decide (j = i) && decide (r = rest)
  | .error _ => false

/-- The decoder refuses, with that reason. -/
def rejects (bytes : List Byte) (why : DecodeReject) : Bool :=
  match decode bytes with
  | .ok _ => false
  | .error e => decide (e = why)

theorem test_decode_jp : decodesAs [0xC3#8, 0x50#8, 0x01#8, 0x00#8] (.jp_nn 0x0150#16) [0x00#8] = true := by decide
theorem test_decode_two_bytes : decodesAs [0x06#8, 0xFF#8] (.ld_B_n 0xFF#8) [] = true := by decide
theorem test_decode_cb : decodesAs [0xCB#8, 0xFF#8, 0x76#8] .set_7_A [0x76#8] = true := by decide
theorem test_decode_empty : rejects [] .empty = true := by decide
theorem test_decode_truncated : rejects [0xC3#8, 0x50#8] .truncated = true := by decide
theorem test_decode_truncated_cb : rejects [0xCB#8] .truncated = true := by decide
theorem test_encode_jp : encode (.jp_nn 0x0150#16) = [0xC3#8, 0x50#8, 0x01#8] := by decide
theorem test_encode_ld_nn_sp : encode (.ld_mnn_SP 0xC000#16) = [0x08#8, 0x00#8, 0xC0#8] := by decide
theorem test_table_word_nop : decodeTableWord 8 0x00 = some .nop := by decide
theorem test_table_word_ld_nn : decodeTableWord 8 0x01 = some (.ld_BC_nn 0x0000#16) := by decide
theorem test_table_word_cb : decodeTableWord 16 0xCB7C = some .bit_7_H := by decide
theorem test_named_count : namedIo.length = 70 := by decide

/-! ### One step of each instruction: the vectors of spec 95 section 3 -/

/-- Bytes written over the bus from an address on. -/
def wr (s : State) (a : Word) : List Byte → State
  | [] => s
  | b :: rest => wr (memWrite s a b) (a + 1#16) rest

/-- The machine of the vectors: a program in work RAM at C000, sp = DFF0. -/
def prog (bytes : List Byte) : State := wr { State.reset with pc := 0xC000#16, sp := 0xDFF0#16 } 0xC000#16 bytes

/-- Flags in the order Z, N, H, C. -/
def fl (z n h c : Nat) : Flags := { z := z = 1, n := n = 1, h := h = 1, c := c = 1 }

/-- A step from `s` answers the next state `t`. -/
def steps (s t : State) : Bool :=
  match step s with
  | .next u => decide (u = t)
  | .fault _ => false
  | .refused _ => false

/-- A step from `s` ends in that fault record, and the host finds nothing else changed (60 R401). -/
def faults (s : State) (r : FaultRecord) : Bool :=
  match hostStep s with
  | (.fault q, t) => decide (q = r) && decide (t = { s with fault := some r })
  | _ => false

/-- A vector: program, preparation, and the changes a step makes. -/
def vec (bytes : List Byte) (pre post : State → State) : Bool := steps (pre (prog bytes)) (post (pre (prog bytes)))

theorem test_LD8_1 : vec [0x41#8] (fun s => { s with c := 0x5A#8 })
    (fun s => { s with b := 0x5A#8, flags := fl 0 0 0 0, pc := 0xC001#16, cycles := 4 }) = true := by decide
theorem test_LD8_3 : vec [0x06#8, 0xFF#8] id
    (fun s => { s with b := 0xFF#8, flags := fl 0 0 0 0, pc := 0xC002#16, cycles := 8 }) = true := by decide
theorem test_LD8_4 : vec [0x46#8] (fun s => { wr s 0xC100#16 [0x77#8] with h := 0xC1#8, l := 0x00#8 })
    (fun s => { s with b := 0x77#8, flags := fl 0 0 0 0, pc := 0xC001#16, cycles := 8 }) = true := by decide
theorem test_LD8_5 : vec [0x70#8] (fun s => { s with h := 0xC1#8, l := 0x00#8, b := 0x99#8 })
    (fun s => { wr s 0xC100#16 [0x99#8] with flags := fl 0 0 0 0, pc := 0xC001#16, cycles := 8 }) = true := by decide
set_option maxRecDepth 100000 in
theorem test_LD8_7 : vec [0x36#8, 0x42#8] (fun s => { s with h := 0xFF#8, l := 0x80#8 })
    (fun s => { wr s 0xFF80#16 [0x42#8] with flags := fl 0 0 0 0, pc := 0xC002#16, cycles := 12 }) = true := by decide
theorem test_LD8_8 : vec [0x0A#8] (fun s => { wr s 0xC200#16 [0x11#8] with b := 0xC2#8, c := 0x00#8 })
    (fun s => { s with a := 0x11#8, flags := fl 0 0 0 0, pc := 0xC001#16, cycles := 8 }) = true := by decide
theorem test_LD8_9 : vec [0x1A#8] (fun s => { s with d := 0xFE#8, e := 0xA0#8 })
    (fun s => { s with a := 0xFF#8, flags := fl 0 0 0 0, pc := 0xC001#16, cycles := 8 }) = true := by decide
theorem test_LD8_10 : vec [0x02#8] (fun s => { s with b := 0xE0#8, c := 0x00#8, a := 0x5A#8 })
    (fun s => { wr s 0xE000#16 [0x5A#8] with flags := fl 0 0 0 0, pc := 0xC001#16, cycles := 8 }) = true := by decide
theorem test_LD8_11 : vec [0x12#8] (fun s => { s with d := 0x20#8, e := 0x00#8, a := 0x05#8 })
    (fun s => { wr s 0x2000#16 [0x05#8] with flags := fl 0 0 0 0, pc := 0xC001#16, cycles := 8 }) = true := by decide
set_option maxRecDepth 100000 in
theorem test_LD8_13 : vec [0xEA#8, 0x00#8, 0xD0#8] (fun s => { s with a := 0xAB#8 })
    (fun s => { wr s 0xD000#16 [0xAB#8] with flags := fl 0 0 0 0, pc := 0xC003#16, cycles := 16 }) = true := by decide
theorem test_LD8_14 : vec [0xF2#8] (fun s => { s with c := 0x0F#8, ifReg := 0x01#5 })
    (fun s => { s with a := 0xE1#8, flags := fl 0 0 0 0, pc := 0xC001#16, cycles := 8 }) = true := by decide
theorem test_LD8_15 : vec [0xE2#8] (fun s => { s with c := 0x70#8, a := 0x00#8 })
    (fun s => { wr s 0xFF70#16 [0x00#8] with flags := fl 0 0 0 0, pc := 0xC001#16, cycles := 8 }) = true := by decide
theorem test_LD8_16 : vec [0xF0#8, 0x70#8] id
    (fun s => { s with a := 0x01#8, flags := fl 0 0 0 0, pc := 0xC002#16, cycles := 12 }) = true := by decide
theorem test_LD8_17 : vec [0xE0#8, 0x80#8] (fun s => { s with a := 0x3C#8 })
    (fun s => { wr s 0xFF80#16 [0x3C#8] with flags := fl 0 0 0 0, pc := 0xC002#16, cycles := 12 }) = true := by decide
theorem test_LD8_19 : vec [0x22#8] (fun s => { s with h := 0xFF#8, l := 0xFF#8, a := 0x1F#8 })
    (fun s => { wr s 0xFFFF#16 [0x1F#8] with
        h := 0x00#8, l := 0x00#8, flags := fl 0 0 0 0, pc := 0xC001#16, ieReg := 0x1F#8, cycles := 8 }) = true := by decide
theorem test_LD8_20 : vec [0x2A#8] (fun s => { wr s 0xC0FF#16 [0x66#8] with h := 0xC0#8, l := 0xFF#8 })
    (fun s => { s with
        a := 0x66#8, h := 0xC1#8, l := 0x00#8, flags := fl 0 0 0 0, pc := 0xC001#16, cycles := 8 }) = true := by decide
theorem test_LD8_21 : vec [0x32#8] (fun s => { s with h := 0xC3#8, l := 0x00#8, a := 0x01#8 })
    (fun s => { wr s 0xC300#16 [0x01#8] with
        h := 0xC2#8, l := 0xFF#8, flags := fl 0 0 0 0, pc := 0xC001#16, cycles := 8 }) = true := by decide
theorem test_LD8_22 : vec [0x3A#8] (fun s => { s with h := 0x00#8, l := 0x00#8, a := 0x77#8 })
    (fun s => { s with
        a := 0x00#8, h := 0xFF#8, l := 0xFF#8, flags := fl 0 0 0 0, pc := 0xC001#16, cycles := 8 }) = true := by decide
theorem test_LD16_1 : vec [0x01#8, 0x34#8, 0x12#8] id
    (fun s => { s with
        b := 0x12#8, c := 0x34#8, flags := fl 0 0 0 0, pc := 0xC003#16, cycles := 12 }) = true := by decide
theorem test_LD16_2 : vec [0x31#8, 0xFE#8, 0xFF#8] id
    (fun s => { s with flags := fl 0 0 0 0, sp := 0xFFFE#16, pc := 0xC003#16, cycles := 12 }) = true := by decide
theorem test_LD16_3 : vec [0x08#8, 0x00#8, 0xC1#8] (fun s => { s with sp := 0xD123#16 })
    (fun s => { wr (wr s 0xC100#16 [0x23#8]) 0xC101#16 [0xD1#8] with
        flags := fl 0 0 0 0, pc := 0xC003#16, cycles := 20 }) = true := by decide
theorem test_LD16_4 : vec [0x08#8, 0xFF#8, 0xFF#8] (fun s => { s with sp := 0x1234#16 })
    (fun s => { wr (wr s 0xFFFF#16 [0x34#8]) 0x0000#16 [0x12#8] with
        flags := fl 0 0 0 0, pc := 0xC003#16, ieReg := 0x34#8, cycles := 20 }) = true := by decide
theorem test_LD16_5 : vec [0xF9#8] (fun s => { s with h := 0xCF#8, l := 0xFF#8 })
    (fun s => { s with flags := fl 0 0 0 0, sp := 0xCFFF#16, pc := 0xC001#16, cycles := 8 }) = true := by decide
theorem test_LD16_6 : vec [0xF8#8, 0x08#8] (fun s => { s with sp := 0xFFF8#16, h := 0x12#8, l := 0x34#8 })
    (fun s => { s with
        h := 0x00#8, l := 0x00#8, flags := fl 0 0 1 1, pc := 0xC002#16, cycles := 12 }) = true := by decide
theorem test_LD16_8 : vec [0xF8#8, 0xFF#8] (fun s => { s with sp := 0x0000#16 })
    (fun s => { s with
        h := 0xFF#8, l := 0xFF#8, flags := fl 0 0 0 0, pc := 0xC002#16, cycles := 12 }) = true := by decide
theorem test_LD16_9 : vec [0xF8#8, 0x80#8] (fun s => { s with sp := 0xD080#16, flags := fl 1 1 0 0 })
    (fun s => { s with h := 0xD0#8, flags := fl 0 0 0 1, pc := 0xC002#16, cycles := 12 }) = true := by decide
theorem test_ALU8_1 : vec [0x87#8] (fun s => { s with a := 0x0F#8 })
    (fun s => { s with a := 0x1E#8, flags := fl 0 0 1 0, pc := 0xC001#16, cycles := 4 }) = true := by decide
theorem test_ALU8_2 : vec [0x80#8] (fun s => { s with a := 0xFF#8, b := 0x01#8 })
    (fun s => { s with a := 0x00#8, flags := fl 1 0 1 1, pc := 0xC001#16, cycles := 4 }) = true := by decide
theorem test_ALU8_4 : vec [0x86#8] (fun s => { wr s 0xC100#16 [0x0F#8] with a := 0x01#8, h := 0xC1#8, l := 0x00#8 })
    (fun s => { s with a := 0x10#8, flags := fl 0 0 1 0, pc := 0xC001#16, cycles := 8 }) = true := by decide
theorem test_ALU8_6 : vec [0xCE#8, 0xFF#8] (fun s => { s with a := 0xFF#8, flags := fl 0 0 0 1 })
    (fun s => { s with a := 0xFF#8, flags := fl 0 0 1 1, pc := 0xC002#16, cycles := 8 }) = true := by decide
theorem test_ALU8_8 : vec [0x90#8] (fun s => { s with a := 0x3E#8, b := 0x0F#8 })
    (fun s => { s with a := 0x2F#8, flags := fl 0 1 1 0, pc := 0xC001#16, cycles := 4 }) = true := by decide
theorem test_ALU8_9 : vec [0xD6#8, 0x01#8] (fun s => { s with a := 0x00#8 })
    (fun s => { s with a := 0xFF#8, flags := fl 0 1 1 1, pc := 0xC002#16, cycles := 8 }) = true := by decide
theorem test_ALU8_11 : vec [0x98#8] (fun s => { s with a := 0x00#8, b := 0xFF#8, flags := fl 0 0 0 1 })
    (fun s => { s with a := 0x00#8, flags := fl 1 1 1 1, pc := 0xC001#16, cycles := 4 }) = true := by decide
theorem test_ALU8_14 : vec [0xE6#8, 0x3F#8] (fun s => { s with a := 0x5A#8, flags := fl 0 1 0 1 })
    (fun s => { s with a := 0x1A#8, flags := fl 0 0 1 0, pc := 0xC002#16, cycles := 8 }) = true := by decide
theorem test_ALU8_16 : vec [0xAF#8] (fun s => { s with a := 0x99#8, flags := fl 0 1 1 1 })
    (fun s => { s with a := 0x00#8, flags := fl 1 0 0 0, pc := 0xC001#16, cycles := 4 }) = true := by decide
theorem test_ALU8_19 : vec [0xF6#8, 0x03#8] (fun s => { s with a := 0x58#8 })
    (fun s => { s with a := 0x5B#8, flags := fl 0 0 0 0, pc := 0xC002#16, cycles := 8 }) = true := by decide
theorem test_ALU8_20 : vec [0xFE#8, 0x40#8] (fun s => { s with a := 0x3C#8 })
    (fun s => { s with flags := fl 0 1 0 1, pc := 0xC002#16, cycles := 8 }) = true := by decide
theorem test_ALU8_22 : vec [0xBE#8] (fun s => { s with a := 0x10#8, h := 0xFE#8, l := 0xA0#8 })
    (fun s => { s with flags := fl 0 1 1 1, pc := 0xC001#16, cycles := 8 }) = true := by decide
theorem test_ALU8_23 : vec [0x04#8] (fun s => { s with b := 0x0F#8, flags := fl 0 0 0 1 })
    (fun s => { s with b := 0x10#8, flags := fl 0 0 1 1, pc := 0xC001#16, cycles := 4 }) = true := by decide
theorem test_ALU8_25 : vec [0x34#8] (fun s => { wr s 0xC100#16 [0xFF#8] with h := 0xC1#8, l := 0x00#8, flags := fl 0 0 0 1 })
    (fun s => { wr s 0xC100#16 [0x00#8] with flags := fl 1 0 1 1, pc := 0xC001#16, cycles := 12 }) = true := by decide
theorem test_ALU8_27 : vec [0x0D#8] (fun s => { s with c := 0x00#8, flags := fl 0 0 0 1 })
    (fun s => { s with c := 0xFF#8, flags := fl 0 1 1 1, pc := 0xC001#16, cycles := 4 }) = true := by decide
theorem test_ALU8_28 : vec [0x35#8] (fun s => { wr s 0xFF80#16 [0x10#8] with h := 0xFF#8, l := 0x80#8 })
    (fun s => { wr s 0xFF80#16 [0x0F#8] with flags := fl 0 1 1 0, pc := 0xC001#16, cycles := 12 }) = true := by decide
theorem test_ALU8_29 : vec [0x27#8] (fun s => { s with a := 0x10#8, flags := fl 0 0 1 0 })
    (fun s => { s with a := 0x16#8, flags := fl 0 0 0 0, pc := 0xC001#16, cycles := 4 }) = true := by decide
theorem test_ALU8_30 : vec [0x27#8] (fun s => { s with a := 0x9A#8 })
    (fun s => { s with a := 0x00#8, flags := fl 1 0 0 1, pc := 0xC001#16, cycles := 4 }) = true := by decide
theorem test_ALU8_32 : vec [0x27#8] (fun s => { s with a := 0x00#8, flags := fl 0 1 1 0 })
    (fun s => { s with a := 0xFA#8, flags := fl 0 1 0 0, pc := 0xC001#16, cycles := 4 }) = true := by decide
theorem test_ALU8_33 : vec [0x27#8] (fun s => { s with a := 0xA0#8 })
    (fun s => { s with a := 0x00#8, flags := fl 1 0 0 1, pc := 0xC001#16, cycles := 4 }) = true := by decide
theorem test_ALU8_34 : vec [0x27#8] (fun s => { s with a := 0x20#8, flags := fl 0 1 0 1 })
    (fun s => { s with a := 0xC0#8, flags := fl 0 1 0 1, pc := 0xC001#16, cycles := 4 }) = true := by decide
theorem test_ALU8_36 : vec [0x2F#8] (fun s => { s with a := 0x35#8, flags := fl 1 0 0 1 })
    (fun s => { s with a := 0xCA#8, flags := fl 1 1 1 1, pc := 0xC001#16, cycles := 4 }) = true := by decide
theorem test_ALU8_37 : vec [0x37#8] (fun s => { s with flags := fl 1 1 1 0 })
    (fun s => { s with flags := fl 1 0 0 1, pc := 0xC001#16, cycles := 4 }) = true := by decide
theorem test_ALU8_39 : vec [0x3F#8] (fun s => { s with flags := fl 1 0 0 0 })
    (fun s => { s with flags := fl 1 0 0 1, pc := 0xC001#16, cycles := 4 }) = true := by decide
theorem test_ALU16_1 : vec [0x09#8] (fun s => { s with h := 0x8A#8, l := 0x23#8, b := 0x06#8, c := 0x05#8, flags := fl 1 0 0 0 })
    (fun s => { s with
        h := 0x90#8, l := 0x28#8, flags := fl 1 0 1 0, pc := 0xC001#16, cycles := 8 }) = true := by decide
theorem test_ALU16_3 : vec [0x29#8] (fun s => { s with h := 0x80#8, l := 0x00#8, flags := fl 0 1 0 0 })
    (fun s => { s with h := 0x00#8, flags := fl 0 0 0 1, pc := 0xC001#16, cycles := 8 }) = true := by decide
theorem test_ALU16_4 : vec [0x39#8] (fun s => { s with h := 0x0F#8, l := 0xFF#8, sp := 0x0001#16 })
    (fun s => { s with
        h := 0x10#8, l := 0x00#8, flags := fl 0 0 1 0, pc := 0xC001#16, cycles := 8 }) = true := by decide
theorem test_ALU16_5 : vec [0x03#8] (fun s => { s with b := 0xFF#8, c := 0xFF#8, flags := fl 1 0 0 1 })
    (fun s => { s with
        b := 0x00#8, c := 0x00#8, flags := fl 1 0 0 1, pc := 0xC001#16, cycles := 8 }) = true := by decide
theorem test_ALU16_8 : vec [0x0B#8] (fun s => { s with b := 0x00#8, c := 0x00#8 })
    (fun s => { s with
        b := 0xFF#8, c := 0xFF#8, flags := fl 0 0 0 0, pc := 0xC001#16, cycles := 8 }) = true := by decide
theorem test_ALU16_9 : vec [0x3B#8] (fun s => { s with sp := 0x0000#16 })
    (fun s => { s with flags := fl 0 0 0 0, sp := 0xFFFF#16, pc := 0xC001#16, cycles := 8 }) = true := by decide
theorem test_ALU16_11 : vec [0xE8#8, 0x02#8] (fun s => { s with sp := 0xFFF8#16, flags := fl 1 1 0 0 })
    (fun s => { s with flags := fl 0 0 0 0, sp := 0xFFFA#16, pc := 0xC002#16, cycles := 16 }) = true := by decide
theorem test_ALU16_13 : vec [0xE8#8, 0xFF#8] (fun s => { s with sp := 0x0000#16 })
    (fun s => { s with flags := fl 0 0 0 0, sp := 0xFFFF#16, pc := 0xC002#16, cycles := 16 }) = true := by decide
theorem test_ALU16_15 : vec [0xE8#8, 0x80#8] (fun s => { s with sp := 0x0100#16 })
    (fun s => { s with flags := fl 0 0 0 0, sp := 0x0080#16, pc := 0xC002#16, cycles := 16 }) = true := by decide
theorem test_ROT_2 : vec [0x07#8] (fun s => { s with a := 0x00#8, flags := fl 1 0 0 0 })
    (fun s => { s with a := 0x00#8, flags := fl 0 0 0 0, pc := 0xC001#16, cycles := 4 }) = true := by decide
theorem test_ROT_3 : vec [0x0F#8] (fun s => { s with a := 0x3B#8 })
    (fun s => { s with a := 0x9D#8, flags := fl 0 0 0 1, pc := 0xC001#16, cycles := 4 }) = true := by decide
theorem test_ROT_4 : vec [0x17#8] (fun s => { s with a := 0x95#8, flags := fl 0 0 0 1 })
    (fun s => { s with a := 0x2B#8, flags := fl 0 0 0 1, pc := 0xC001#16, cycles := 4 }) = true := by decide
theorem test_ROT_6 : vec [0x1F#8] (fun s => { s with a := 0x81#8 })
    (fun s => { s with a := 0x40#8, flags := fl 0 0 0 1, pc := 0xC001#16, cycles := 4 }) = true := by decide
theorem test_ROT_8 : vec [0xCB#8, 0x00#8] (fun s => { s with b := 0x85#8 })
    (fun s => { s with b := 0x0B#8, flags := fl 0 0 0 1, pc := 0xC002#16, cycles := 8 }) = true := by decide
theorem test_ROT_10 : vec [0xCB#8, 0x09#8] (fun s => { s with c := 0x01#8 })
    (fun s => { s with c := 0x80#8, flags := fl 0 0 0 1, pc := 0xC002#16, cycles := 8 }) = true := by decide
theorem test_ROT_12 : vec [0xCB#8, 0x12#8] (fun s => { s with d := 0x11#8, flags := fl 0 0 0 1 })
    (fun s => { s with d := 0x23#8, flags := fl 0 0 0 0, pc := 0xC002#16, cycles := 8 }) = true := by decide
theorem test_ROT_14 : vec [0xCB#8, 0x1E#8] (fun s => { wr s 0xC100#16 [0x8A#8] with h := 0xC1#8, l := 0x00#8, flags := fl 0 0 0 1 })
    (fun s => { wr s 0xC100#16 [0xC5#8] with flags := fl 0 0 0 0, pc := 0xC002#16, cycles := 16 }) = true := by decide
theorem test_ROT_15 : vec [0xCB#8, 0x22#8] (fun s => { s with d := 0x80#8 })
    (fun s => { s with d := 0x00#8, flags := fl 1 0 0 1, pc := 0xC002#16, cycles := 8 }) = true := by decide
theorem test_ROT_17 : vec [0xCB#8, 0x2F#8] (fun s => { s with a := 0x8A#8 })
    (fun s => { s with a := 0xC5#8, flags := fl 0 0 0 0, pc := 0xC002#16, cycles := 8 }) = true := by decide
theorem test_ROT_18 : vec [0xCB#8, 0x28#8] (fun s => { s with b := 0x01#8 })
    (fun s => { s with b := 0x00#8, flags := fl 1 0 0 1, pc := 0xC002#16, cycles := 8 }) = true := by decide
theorem test_ROT_19 : vec [0xCB#8, 0x37#8] (fun s => { s with a := 0xF0#8, flags := fl 0 1 1 1 })
    (fun s => { s with a := 0x0F#8, flags := fl 0 0 0 0, pc := 0xC002#16, cycles := 8 }) = true := by decide
theorem test_ROT_21 : vec [0xCB#8, 0x36#8] (fun s => { wr s 0xC100#16 [0x12#8] with h := 0xC1#8, l := 0x00#8 })
    (fun s => { wr s 0xC100#16 [0x21#8] with flags := fl 0 0 0 0, pc := 0xC002#16, cycles := 16 }) = true := by decide
theorem test_ROT_23 : vec [0xCB#8, 0x38#8] (fun s => { s with b := 0x01#8 })
    (fun s => { s with b := 0x00#8, flags := fl 1 0 0 1, pc := 0xC002#16, cycles := 8 }) = true := by decide
theorem test_ROT_24 : vec [0xCB#8, 0x06#8] (fun s => { s with h := 0xFE#8, l := 0xA0#8 })
    (fun s => { wr s 0xFEA0#16 [0xFF#8] with flags := fl 0 0 0 1, pc := 0xC002#16, cycles := 16 }) = true := by decide
theorem test_BIT_1 : vec [0xCB#8, 0x7F#8] (fun s => { s with a := 0x80#8, flags := fl 0 1 0 1 })
    (fun s => { s with flags := fl 0 0 1 1, pc := 0xC002#16, cycles := 8 }) = true := by decide
theorem test_BIT_3 : vec [0xCB#8, 0x46#8] (fun s => { wr s 0xC100#16 [0xFE#8] with h := 0xC1#8, l := 0x00#8 })
    (fun s => { s with flags := fl 1 0 1 0, pc := 0xC002#16, cycles := 12 }) = true := by decide
theorem test_BIT_6 : vec [0xCB#8, 0xBF#8] (fun s => { s with a := 0x80#8, flags := fl 0 0 0 0 })
    (fun s => { s with a := 0x00#8, flags := fl 0 0 0 0, pc := 0xC002#16, cycles := 8 }) = true := by decide
theorem test_BIT_7 : vec [0xCB#8, 0x9E#8] (fun s => { wr s 0xC100#16 [0xFF#8] with h := 0xC1#8, l := 0x00#8 })
    (fun s => { wr s 0xC100#16 [0xF7#8] with flags := fl 0 0 0 0, pc := 0xC002#16, cycles := 16 }) = true := by decide
theorem test_BIT_9 : vec [0xCB#8, 0xDF#8] (fun s => { s with a := 0x80#8 })
    (fun s => { s with a := 0x88#8, flags := fl 0 0 0 0, pc := 0xC002#16, cycles := 8 }) = true := by decide
theorem test_BIT_11 : vec [0xCB#8, 0xC6#8] (fun s => { s with h := 0xFF#8, l := 0x70#8 })
    (fun s => { wr s 0xFF70#16 [0x01#8] with flags := fl 0 0 0 0, pc := 0xC002#16, cycles := 16 }) = true := by decide
theorem test_BIT_12 : vec [0xCB#8, 0x86#8] (fun s => { s with h := 0xFF#8, l := 0x0F#8, ifReg := 0x1F#5 })
    (fun s => { wr s 0xFF0F#16 [0xFE#8] with
        flags := fl 0 0 0 0, pc := 0xC002#16, ifReg := 0x1E#5, cycles := 16 }) = true := by decide
theorem test_JMP_1 : vec [0xC3#8, 0x50#8, 0x01#8] id
    (fun s => { s with flags := fl 0 0 0 0, pc := 0x0150#16, cycles := 16 }) = true := by decide
theorem test_JMP_2 : vec [0xCA#8, 0x00#8, 0x02#8] (fun s => { s with flags := fl 1 0 0 0 })
    (fun s => { s with flags := fl 1 0 0 0, pc := 0x0200#16, cycles := 16 }) = true := by decide
theorem test_JMP_3 : vec [0xCA#8, 0x00#8, 0x02#8] (fun s => { s with flags := fl 0 0 0 0 })
    (fun s => { s with flags := fl 0 0 0 0, pc := 0xC003#16, cycles := 12 }) = true := by decide
theorem test_JMP_5 : vec [0xE9#8] (fun s => { s with h := 0x40#8, l := 0x00#8 })
    (fun s => { s with flags := fl 0 0 0 0, pc := 0x4000#16, cycles := 4 }) = true := by decide
theorem test_JMP_6 : vec [0x18#8, 0xFE#8] id
    (fun s => { s with flags := fl 0 0 0 0, pc := 0xC000#16, cycles := 12 }) = true := by decide
theorem test_JMP_9 : vec [0x18#8, 0x80#8] id
    (fun s => { s with flags := fl 0 0 0 0, pc := 0xBF82#16, cycles := 12 }) = true := by decide
theorem test_JMP_13 : vec [0x30#8, 0x10#8] (fun s => { s with flags := fl 0 0 0 1 })
    (fun s => { s with flags := fl 0 0 0 1, pc := 0xC002#16, cycles := 8 }) = true := by decide
theorem test_JMP_14 : vec [0xCD#8, 0x34#8, 0x12#8] (fun s => { s with sp := 0xD000#16 })
    (fun s => { wr (wr s 0xCFFF#16 [0xC0#8]) 0xCFFE#16 [0x03#8] with
        flags := fl 0 0 0 0, sp := 0xCFFE#16, pc := 0x1234#16, cycles := 24 }) = true := by decide
theorem test_JMP_15 : faults ((fun s => { s with sp := 0x0001#16 }) (prog [0xCD#8, 0x34#8, 0x12#8])) (.stackFault 0x0001#16) = true := by decide
theorem test_JMP_16 : vec [0xDC#8, 0x00#8, 0x20#8] (fun s => { s with sp := 0xD000#16, flags := fl 0 0 0 0 })
    (fun s => { s with flags := fl 0 0 0 0, pc := 0xC003#16, cycles := 12 }) = true := by decide
theorem test_JMP_17 : vec [0xDC#8, 0x00#8, 0x20#8] (fun s => { s with sp := 0xD000#16, flags := fl 0 0 0 1 })
    (fun s => { wr (wr s 0xCFFF#16 [0xC0#8]) 0xCFFE#16 [0x03#8] with
        flags := fl 0 0 0 1, sp := 0xCFFE#16, pc := 0x2000#16, cycles := 24 }) = true := by decide
theorem test_JMP_19 : vec [0xC9#8] (fun s => { wr (wr s 0xCFFE#16 [0x03#8]) 0xCFFF#16 [0x01#8] with sp := 0xCFFE#16 })
    (fun s => { s with flags := fl 0 0 0 0, sp := 0xD000#16, pc := 0x0103#16, cycles := 16 }) = true := by decide
theorem test_JMP_20 : faults ((fun s => { s with sp := 0xFFFE#16 }) (prog [0xC9#8])) (.stackFault 0xFFFE#16) = true := by decide
theorem test_JMP_21 : vec [0xC0#8] (fun s => { wr (wr s 0xCFFE#16 [0x03#8]) 0xCFFF#16 [0x01#8] with
        sp := 0xCFFE#16, flags := fl 1 0 0 0 })
    (fun s => { s with flags := fl 1 0 0 0, pc := 0xC001#16, cycles := 8 }) = true := by decide
theorem test_JMP_22 : vec [0xC0#8] (fun s => { wr (wr s 0xCFFE#16 [0x03#8]) 0xCFFF#16 [0x01#8] with
        sp := 0xCFFE#16, flags := fl 0 0 0 0 })
    (fun s => { s with flags := fl 0 0 0 0, sp := 0xD000#16, pc := 0x0103#16, cycles := 20 }) = true := by decide
theorem test_JMP_24 : vec [0xD9#8] (fun s => { wr (wr s 0xCFFE#16 [0x50#8]) 0xCFFF#16 [0x01#8] with
        sp := 0xCFFE#16, ime := false })
    (fun s => { s with
        flags := fl 0 0 0 0, sp := 0xD000#16, pc := 0x0150#16, ime := true, cycles := 16 }) = true := by decide
theorem test_JMP_26 : vec [0xFF#8] (fun s => { s with sp := 0x0002#16 })
    (fun s => { wr (wr s 0x0001#16 [0xC0#8]) 0x0000#16 [0x01#8] with
        flags := fl 0 0 0 0, sp := 0x0000#16, pc := 0x0038#16, cycles := 16 }) = true := by decide
theorem test_STK_1 : vec [0xC5#8] (fun s => { s with b := 0x12#8, c := 0x34#8, sp := 0xD000#16 })
    (fun s => { wr (wr s 0xCFFF#16 [0x12#8]) 0xCFFE#16 [0x34#8] with
        flags := fl 0 0 0 0, sp := 0xCFFE#16, pc := 0xC001#16, cycles := 16 }) = true := by decide
theorem test_STK_2 : vec [0xF5#8] (fun s => { s with a := 0x12#8, sp := 0xD000#16, flags := fl 1 0 0 1 })
    (fun s => { wr (wr s 0xCFFF#16 [0x12#8]) 0xCFFE#16 [0x90#8] with
        flags := fl 1 0 0 1, sp := 0xCFFE#16, pc := 0xC001#16, cycles := 16 }) = true := by decide
theorem test_STK_3 : faults ((fun s => { s with b := 0x12#8, c := 0x34#8, sp := 0x0000#16 }) (prog [0xC5#8])) (.stackFault 0x0000#16) = true := by decide
theorem test_STK_6 : vec [0xD5#8] (fun s => { s with d := 0xBE#8, e := 0xEF#8, sp := 0xFFFF#16 })
    (fun s => { wr (wr s 0xFFFE#16 [0xBE#8]) 0xFFFD#16 [0xEF#8] with
        flags := fl 0 0 0 0, sp := 0xFFFD#16, pc := 0xC001#16, cycles := 16 }) = true := by decide
theorem test_STK_7 : vec [0xD1#8] (fun s => { wr (wr s 0xCFFE#16 [0x34#8]) 0xCFFF#16 [0x12#8] with sp := 0xCFFE#16 })
    (fun s => { s with
        d := 0x12#8, e := 0x34#8, flags := fl 0 0 0 0, sp := 0xD000#16, pc := 0xC001#16, cycles := 12 }) = true := by decide
theorem test_STK_8 : vec [0xF1#8] (fun s => { wr (wr s 0xCFFE#16 [0x9F#8]) 0xCFFF#16 [0x12#8] with sp := 0xCFFE#16 })
    (fun s => { s with
        a := 0x12#8, flags := fl 1 0 0 1, sp := 0xD000#16, pc := 0xC001#16, cycles := 12 }) = true := by decide
theorem test_STK_9 : vec [0xF1#8] (fun s => { s with sp := 0xFEA0#16 })
    (fun s => { s with
        a := 0xFF#8, flags := fl 1 1 1 1, sp := 0xFEA2#16, pc := 0xC001#16, cycles := 12 }) = true := by decide
theorem test_STK_10 : faults ((fun s => { s with sp := 0xFFFE#16 }) (prog [0xC1#8])) (.stackFault 0xFFFE#16) = true := by decide
theorem test_CTL_1 : vec [0x00#8] id
    (fun s => { s with flags := fl 0 0 0 0, pc := 0xC001#16, cycles := 4 }) = true := by decide
theorem test_CTL_2 : vec [0x76#8] (fun s => { s with ime := true, ieReg := 0x01#8 })
    (fun s => { s with flags := fl 0 0 0 0, pc := 0xC001#16, halted := true, cycles := 4 }) = true := by decide
theorem test_CTL_5 : vec [0x76#8, 0x3C#8] (fun s => { s with ime := true, ieReg := 0x04#8, ifReg := 0x04#5, sp := 0xD000#16 })
    (fun s => { wr (wr s 0xCFFF#16 [0xC0#8]) 0xCFFE#16 [0x00#8] with
        flags := fl 0 0 0 0, sp := 0xCFFE#16, pc := 0x0050#16, ime := false, halted := false, ifReg := 0x00#5,
        cycles := 20 }) = true := by decide
theorem test_CTL_6 : vec [0x10#8, 0x00#8] id
    (fun s => { s with flags := fl 0 0 0 0, pc := 0xC002#16, stopped := true, cycles := 4 }) = true := by decide
theorem test_CTL_8 : vec [0xF3#8] (fun s => { s with ime := true })
    (fun s => { s with flags := fl 0 0 0 0, pc := 0xC001#16, ime := false, cycles := 4 }) = true := by decide
theorem test_CTL_9 : vec [0xFB#8] (fun s => { s with ime := false })
    (fun s => { s with flags := fl 0 0 0 0, pc := 0xC001#16, ime := true, cycles := 4 }) = true := by decide
theorem test_CTL_14 : vec [0x00#8] (fun s => { s with ime := true, ieReg := 0x1F#8, ifReg := 0x14#5, sp := 0xD000#16 })
    (fun s => { wr (wr s 0xCFFF#16 [0xC0#8]) 0xCFFE#16 [0x00#8] with
        flags := fl 0 0 0 0, sp := 0xCFFE#16, pc := 0x0050#16, ime := false, ifReg := 0x10#5, cycles := 20 }) = true := by decide
theorem test_CTL_15 : vec [0x00#8] (fun s => { s with ime := true, ieReg := 0x10#8, ifReg := 0x1F#5, sp := 0xD000#16 })
    (fun s => { wr (wr s 0xCFFF#16 [0xC0#8]) 0xCFFE#16 [0x00#8] with
        flags := fl 0 0 0 0, sp := 0xCFFE#16, pc := 0x0060#16, ime := false, ifReg := 0x0F#5, cycles := 20 }) = true := by decide
theorem test_CTL_16 : vec [0x00#8] (fun s => { s with ime := true, ieReg := 0xE0#8, ifReg := 0x00#5, sp := 0xD000#16 })
    (fun s => { s with
        flags := fl 0 0 0 0, pc := 0xC001#16, ime := true, ifReg := 0x00#5, cycles := 4 }) = true := by decide
theorem test_CTL_17 : vec [0x00#8] (fun s => { s with ime := false, ieReg := 0x1F#8, ifReg := 0x1F#5, sp := 0xD000#16 })
    (fun s => { s with
        flags := fl 0 0 0 0, pc := 0xC001#16, ime := false, ifReg := 0x1F#5, cycles := 4 }) = true := by decide
theorem test_CTL_18 : faults ((fun s => { s with ime := true, ieReg := 0x01#8, ifReg := 0x01#5, sp := 0x0001#16 }) (prog [0x00#8])) (.stackFault 0x0001#16) = true := by decide
theorem test_CTL_ill_D3 : faults ((fun s => { s with a := 0x55#8 }) (prog [0xD3#8])) (.decodeFault 0xD3#8 0xC000#16) = true := by decide
theorem test_CTL_ill_FD : faults ((fun s => { s with a := 0x55#8 }) (prog [0xFD#8])) (.decodeFault 0xFD#8 0xC000#16) = true := by decide

/-! ### EI with EI_DELAY = 1, halting and stopping (48 R350 to R354; CTL-3, CTL-7, CTL-11, CTL-13) -/

theorem test_ei_delayed : steps { prog [0xFB#8] with eiDelay := true }
    { prog [0xFB#8] with eiDelay := true, eiPending := true, pc := 0xC001#16, cycles := 4 } = true := by decide
theorem test_ei_takes_effect : steps { prog [0x3C#8] with eiDelay := true, eiPending := true }
    { prog [0x3C#8] with eiDelay := true, ime := true, a := 0x01#8, pc := 0xC001#16, cycles := 4 } = true := by decide
theorem test_ei_then_di : steps { prog [0xF3#8] with eiDelay := true, eiPending := true }
    { prog [0xF3#8] with eiDelay := true, pc := 0xC001#16, cycles := 4 } = true := by decide
theorem test_halted_idle : steps { prog [] with halted := true, ime := true, ieReg := 0x01#8 }
    { prog [] with halted := true, ime := true, ieReg := 0x01#8, cycles := 4 } = true := by decide
theorem test_halt_wakes : steps { prog [0x3C#8] with halted := true, ieReg := 0x04#8, ifReg := 0x04#5 }
    { prog [0x3C#8] with ieReg := 0x04#8, ifReg := 0x04#5, a := 0x01#8, pc := 0xC001#16, cycles := 4 } = true := by decide
theorem test_stopped_is_stuck : hostStep { prog [] with stopped := true } = (.stuck, { prog [] with stopped := true }) := by
  decide

/-! ### The bus and the controllers: the access sequences of spec 95 section 4 -/

/-- An access of a sequence: a write, a read with the value expected, or seconds of the clock. -/
inductive Access where
  | w (a v : Nat)
  | r (a v : Nat)
  | tick (n : Nat)

/-- Every read of the sequence gives the value expected. -/
def accesses (s : State) : List Access → Bool
  | [] => true
  | .w a v :: rest => accesses (memWrite s (BitVec.ofNat 16 a) (BitVec.ofNat 8 v)) rest
  | .r a v :: rest => decide ((memRead s (BitVec.ofNat 16 a)).toNat = v) && accesses s rest
  | .tick n :: rest => accesses ((List.range n).foldl (fun t _ => rtcTick t) s) rest

/-- A cartridge of `banks` ROM banks and `ram` RAM banks; the first byte of each listed bank holds its number. -/
def withCart (m : Mbc) (banks ram : Nat) (timer rumble : Bool) (tags : List Nat) : State :=
  { State.reset with
    mbc := m
    cart := { blankCartridge with romLen := banks * 0x4000, ramBankCount := ram, hasTimer := timer, hasRumble := rumble }
    mem := tags.map (fun k => (romBase + k * 0x4000, BitVec.ofNat 8 k)) }

/-- The clock registers of a cartridge with a timer, RTC_INIT all zero. -/
def clocks0 : Option Clocks := Clocks.powerOn zeroRtc true

theorem test_MEM_2 : accesses (withCart .romOnly 2 0 false false [1])
    [.w 0x2000 0x05, .r 0x4000 0x01, .w 0x0000 0xAA, .r 0x0000 0x00] = true := by decide
theorem test_MEM_3 : accesses State.reset
    [.r 0xA000 0xFF, .w 0xA000 0x55, .r 0xA000 0xFF] = true := by decide
theorem test_MEM_4 : accesses State.reset
    [.r 0x8000 0xFF, .w 0x8000 0x12, .r 0x8000 0x12, .w 0xFF4F 0x01, .r 0xFF4F 0x01, .r 0x8000 0x12] = true := by decide
theorem test_MEM_5 : accesses { State.reset with cgbMode := true }
    [.w 0x8000 0x12, .w 0xFF4F 0xFF, .r 0xFF4F 0x01, .r 0x8000 0xFF, .w 0x8000 0x34, .w 0xFF4F 0x00,
      .r 0x8000 0x12] = true := by decide
theorem test_MEM_6 : accesses State.reset
    [.r 0xC000 0xFF, .w 0xC000 0x42, .r 0xC000 0x42, .r 0xE000 0x42] = true := by decide
theorem test_MEM_7 : accesses State.reset
    [.w 0xE123 0x99, .r 0xC123 0x99, .r 0xE123 0x99] = true := by decide
theorem test_MEM_8 : accesses State.reset
    [.w 0xDDFF 0x77, .r 0xFDFF 0x77, .w 0xFDFF 0x78, .r 0xDDFF 0x78] = true := by decide
theorem test_MEM_9 : accesses State.reset
    [.r 0xFF70 0x01, .w 0xFF70 0x00, .r 0xFF70 0x01, .w 0xFF70 0xFF, .r 0xFF70 0x07, .w 0xFF70 0x08,
      .r 0xFF70 0x01] = true := by decide
theorem test_MEM_10 : accesses { State.reset with cgbMode := true }
    [.w 0xD000 0x11, .w 0xFF70 0x02, .r 0xD000 0xFF, .w 0xD000 0x22, .w 0xFF70 0x01, .r 0xD000 0x11,
      .w 0xFF70 0x02, .r 0xD000 0x22, .r 0xF000 0x22] = true := by decide
theorem test_MEM_11 : accesses State.reset
    [.w 0xD000 0x11, .w 0xFF70 0x02, .r 0xFF70 0x02, .r 0xD000 0x11] = true := by decide
theorem test_MEM_12 : accesses State.reset
    [.r 0xFE00 0xFF, .w 0xFE00 0x10, .r 0xFE00 0x10, .w 0xFE9F 0x20, .r 0xFE9F 0x20] = true := by decide
theorem test_MEM_13 : accesses State.reset
    [.r 0xFEA0 0xFF, .w 0xFEA0 0x00, .r 0xFEA0 0xFF, .r 0xFEFF 0xFF] = true := by decide
theorem test_MEM_14 : accesses State.reset
    [.r 0xFF0F 0xE0, .w 0xFF0F 0xFF, .r 0xFF0F 0xFF, .w 0xFF0F 0x00, .r 0xFF0F 0xE0] = true := by decide
theorem test_MEM_15 : accesses State.reset
    [.r 0xFF03 0xFF, .w 0xFF03 0x12, .r 0xFF03 0xFF, .r 0xFF7F 0xFF, .w 0xFF50 0x01, .r 0xFF50 0xFF] = true := by decide
theorem test_MEM_16 : accesses State.reset
    [.r 0xFF40 0x00, .w 0xFF40 0x91, .r 0xFF40 0x91, .w 0xFF46 0xC0, .r 0xFF46 0xC0, .r 0xFE00 0xFF,
      .w 0xFF04 0x55, .r 0xFF04 0x55] = true := by decide
theorem test_MEM_17 : accesses State.reset
    [.r 0xFF80 0xFF, .w 0xFF80 0x01, .r 0xFF80 0x01, .w 0xFFFE 0x02, .r 0xFFFE 0x02] = true := by decide
theorem test_MEM_18 : accesses State.reset
    [.r 0xFFFF 0x00, .w 0xFFFF 0xFF, .r 0xFFFF 0xFF, .w 0xFFFF 0x05, .r 0xFFFF 0x05] = true := by decide
theorem test_MEM_19 : memRead16 (wr State.reset 0xC000#16 [0x34#8, 0x12#8]) 0xC000#16 = 0x1234#16 := by decide

theorem test_MBC1_1 : accesses (withCart (.mbc1 Mbc1.atReset) 128 4 false false [0x01])
    [.r 0x0000 0x00, .r 0x4000 0x01] = true := by decide
theorem test_MBC1_2 : accesses (withCart (.mbc1 Mbc1.atReset) 128 4 false false [0x01, 0x05, 0x1F])
    [.w 0x2000 0x05, .r 0x4000 0x05, .w 0x3FFF 0x00, .r 0x4000 0x01, .w 0x2000 0x20, .r 0x4000 0x01,
      .w 0x2000 0xE5, .r 0x4000 0x05, .w 0x2000 0x3F, .r 0x4000 0x1F] = true := by decide
theorem test_MBC1_3 : accesses (withCart (.mbc1 Mbc1.atReset) 128 4 false false [0x20, 0x25])
    [.w 0x2000 0x05, .w 0x4000 0x01, .r 0x4000 0x25, .r 0x0000 0x00, .w 0x6000 0x01, .r 0x0000 0x20,
      .r 0x4000 0x25, .w 0x6000 0x00, .r 0x0000 0x00] = true := by decide
theorem test_MBC1_4 : accesses (withCart (.mbc1 Mbc1.atReset) 128 4 false false [0x21, 0x61])
    [.w 0x4000 0x01, .w 0x2000 0x00, .r 0x4000 0x21, .w 0x4000 0x03, .r 0x4000 0x61, .w 0x4000 0xFF,
      .r 0x4000 0x61] = true := by decide
theorem test_MBC1_5 : accesses (withCart (.mbc1 Mbc1.atReset) 128 4 false false [])
    [.r 0xA000 0xFF, .w 0xA000 0x11, .r 0xA000 0xFF, .w 0x0000 0x0A, .r 0xA000 0x00, .w 0xA000 0x11,
      .r 0xA000 0x11, .w 0x0000 0x00, .r 0xA000 0xFF, .w 0x1FFF 0xFA, .r 0xA000 0x11, .w 0x0000 0xA0,
      .r 0xA000 0xFF] = true := by decide
theorem test_MBC1_6 : accesses (withCart (.mbc1 Mbc1.atReset) 128 4 false false [])
    [.w 0x0000 0x0A, .w 0xA000 0x11, .w 0x4000 0x02, .r 0xA000 0x11, .w 0x6000 0x01, .r 0xA000 0x00,
      .w 0xA000 0x22, .w 0x6000 0x00, .r 0xA000 0x11, .w 0x6000 0x01, .r 0xA000 0x22] = true := by decide
theorem test_MBC1_7 : accesses (withCart (.mbc1 Mbc1.atReset) 8 0 false false [0x01, 0x07])
    [.w 0x2000 0x09, .r 0x4000 0x01, .w 0x2000 0x10, .r 0x4000 0x00, .w 0x2000 0x1F, .r 0x4000 0x07,
      .w 0x4000 0x01, .r 0x4000 0x07, .w 0x0000 0x0A, .r 0xA000 0xFF] = true := by decide
theorem test_MBC3_1 : accesses (withCart (.mbc3 (Mbc3.atReset clocks0)) 128 4 true false [0x01, 0x7F])
    [.r 0x4000 0x01, .w 0x2000 0x00, .r 0x4000 0x01, .w 0x2000 0x7F, .r 0x4000 0x7F, .w 0x2000 0x80,
      .r 0x4000 0x01, .w 0x2000 0xFF, .r 0x4000 0x7F, .w 0x6000 0x01, .r 0x0000 0x00] = true := by decide
theorem test_MBC3_2 : accesses (withCart (.mbc3 (Mbc3.atReset clocks0)) 128 4 true false [])
    [.w 0x0000 0x0A, .w 0x4000 0x00, .w 0xA000 0x10, .w 0x4000 0x03, .w 0xA000 0x13, .w 0x4000 0x00,
      .r 0xA000 0x10, .w 0x4000 0x03, .r 0xA000 0x13, .w 0x4000 0x04, .r 0xA000 0xFF, .w 0x4000 0x0D,
      .r 0xA000 0xFF, .w 0x0000 0x00, .w 0x4000 0x03, .r 0xA000 0xFF] = true := by decide
theorem test_MBC3_5 : accesses (withCart (.mbc3 (Mbc3.atReset clocks0)) 128 4 true false [])
    [.w 0x0000 0x0A, .w 0x4000 0x08, .w 0xA000 0x3B, .w 0x4000 0x09, .w 0xA000 0x3B, .w 0x4000 0x0A,
      .w 0xA000 0x17, .w 0x4000 0x0B, .w 0xA000 0xFF, .w 0x4000 0x0C, .w 0xA000 0x01, .tick 1, .w 0x6000 0x00,
      .w 0x6000 0x01, .w 0x4000 0x08, .r 0xA000 0x00, .w 0x4000 0x09, .r 0xA000 0x00, .w 0x4000 0x0A,
      .r 0xA000 0x00, .w 0x4000 0x0B, .r 0xA000 0x00, .w 0x4000 0x0C, .r 0xA000 0x80] = true := by decide
theorem test_MBC3_6 : accesses (withCart (.mbc3 (Mbc3.atReset none)) 4 1 false false [0x03])
    [.w 0x0000 0x0A, .w 0x4000 0x08, .r 0xA000 0xFF, .w 0xA000 0x05, .r 0xA000 0xFF, .w 0x4000 0x02,
      .w 0xA000 0x77, .w 0x4000 0x00, .r 0xA000 0x77, .w 0x2000 0x07, .r 0x4000 0x03] = true := by decide
theorem test_MBC30_1 : accesses (withCart (.mbc30 (Mbc3.atReset clocks0)) 256 8 true false [0x01, 0x80, 0xFF])
    [.w 0x2000 0x80, .r 0x4000 0x80, .w 0x2000 0xFF, .r 0x4000 0xFF, .w 0x2000 0x00, .r 0x4000 0x01,
      .w 0x0000 0x0A, .w 0x4000 0x07, .w 0xA000 0x70, .w 0x4000 0x03, .r 0xA000 0x00, .w 0x4000 0x07,
      .r 0xA000 0x70] = true := by decide
theorem test_MBC5_2 : accesses (withCart (.mbc5 Mbc5.atReset) 512 16 false false [])
    [.w 0x0000 0x0A, .w 0x4000 0x0F, .w 0xA000 0xF0, .w 0x4000 0x00, .r 0xA000 0x00, .w 0x4000 0x1F,
      .r 0xA000 0xF0, .w 0x6000 0x01, .r 0x0000 0x00, .w 0x0000 0x0B, .r 0xA000 0xFF] = true := by decide
theorem test_MBC5_3 : accesses (withCart (.mbc5 Mbc5.atReset) 4 4 false true [0x02])
    [.w 0x0000 0x0A, .w 0x4000 0x03, .w 0xA000 0x33, .w 0x4000 0x0B, .r 0xA000 0x33, .w 0x2000 0x06,
      .r 0x4000 0x02] = true := by decide
theorem test_MBC5_1 : accesses { withCart (.mbc5 Mbc5.atReset) 512 16 false false [1] with
      mem := [(romBase + 0x4000, 0x01#8), (romBase + 0x34 * 0x4000, 0x34#8), (romBase + 0x134 * 0x4000, 0x34#8),
        (romBase + 0x134 * 0x4000 + 1, 0x01#8)] }
    [.r 0x4000 0x01, .r 0x4001 0x00, .w 0x2000 0x34, .w 0x3000 0x01, .r 0x4000 0x34, .r 0x4001 0x01, .w 0x3000 0xFE,
      .r 0x4000 0x34, .r 0x4001 0x00, .w 0x2FFF 0x00, .r 0x4000 0x00, .r 0x0000 0x00] = true := by decide

/-! ### Loads (95 section 4.2) -/

/-- An image with the title TEST, a type byte, a RAM size byte and a checksum byte. -/
def image (size ty ram sum : Nat) : Image :=
  { size := size, cells := [(0x134, 0x54#8), (0x135, 0x45#8), (0x136, 0x53#8), (0x137, 0x54#8), (0x147, BitVec.ofNat 8 ty),
      (0x149, BitVec.ofNat 8 ram), (0x14D, BitVec.ofNat 8 sum), (0x4000, 0x01#8)] }

/-- The load of an image with the default parameters. -/
def loadOf (i : Image) : Result := load { defaultParams with rom := i }

/-- The load answers a machine of that kind, bank counts, has-RAM, has-battery, has-timer, has-rumble, checksum. -/
def loads (i : Image) (kind : MbcKind) (romBanks ramBanks : Nat) (ram battery timer rumble sumValid : Bool) : Bool :=
  match loadOf i with
  | .next s => decide (s.mbc.kind = kind) && decide (romBankCount s.cart = romBanks) &&
      decide (s.cart.ramBankCount = ramBanks) && decide (s.cart.hasRam = ram) && decide (s.cart.hasBattery = battery) &&
      decide (s.cart.hasTimer = timer) && decide (s.cart.hasRumble = rumble) &&
      decide (s.cart.checksumValid = sumValid) && decide (s.cart.title = [0x54#8, 0x45#8, 0x53#8, 0x54#8]) &&
      decide (s.cgbMode = false)
  | .fault _ => false
  | .refused _ => false

/-- The load is refused with that record. -/
def refuses (i : Image) (value : Option Byte) : Bool :=
  match loadOf i with
  | .refused r => decide (r = .refusedLoad (.unsupportedCartridge value))
  | .next _ => false
  | .fault _ => false

theorem test_CART_1 : loads (image 0x8000 0x00 0x00 0xA7) .romOnly 2 0 false false false false true = true := by decide
theorem test_CART_2 : loads (image 0x8000 0x00 0x00 0x00) .romOnly 2 0 false false false false false = true := by decide
theorem test_CART_3 : loads (image 0x8000 0x03 0x03 0xA1) .mbc1 2 4 true true false false true = true := by decide
theorem test_CART_4 : loads (image 0x10000 0x10 0x03 0x94) .mbc3 4 4 true true true false true = true := by decide
theorem test_CART_5 : loads (image 0x10000 0x10 0x05 0x92) .mbc30 4 8 true true true false true = true := by decide
theorem test_CART_6 : loads (image 0x400000 0x11 0x00 0x96) .mbc30 256 0 false false false false true = true := by decide
theorem test_CART_7 : loads (image 0x20000 0x1E 0x02 0x87) .mbc5 8 1 true true false true true = true := by decide
theorem test_CART_8 : loads (image 0x8000 0x01 0x01 0xA5) .mbc1 2 0 false false false false true = true := by decide
theorem test_CART_9 : refuses (image 0x8000 0x05 0x00 0xA2) (some 0x05#8) = true := by decide
theorem test_CART_10 : refuses (image 0x8000 0xFF 0x00 0xA8) (some 0xFF#8) = true := by decide
theorem test_CART_11 : refuses (image 0x8000 0x08 0x00 0x9F) (some 0x08#8) = true := by decide
theorem test_CART_12 : refuses (image 0x8000 0x00 0x06 0xA1) (some 0x06#8) = true := by decide
theorem test_CART_13 : refuses { size := 0x14F, cells := [] } none = true := by decide
theorem test_CART_14_title : headerTitle ((List.range 15).map (fun k => (0x134 + k, BitVec.ofNat 8 (0x41 + k))) ++
    [(0x143, 0x80#8)]) = (List.range 11).map (fun k => BitVec.ofNat 8 (0x41 + k)) := by decide
theorem test_CART_15_title : headerTitle ((List.range 15).map (fun k => (0x134 + k, BitVec.ofNat 8 (0x41 + k)))) =
    (List.range 15).map (fun k => BitVec.ofNat 8 (0x41 + k)) := by decide

/-- The machine a load answers, the reset machine where it answers none. -/
def loaded (i : Image) : State :=
  match loadOf i with
  | .next s => s
  | .fault _ => State.reset
  | .refused _ => State.reset

theorem test_CART_16 : accesses (loaded (image 0x4010 0x00 0x00 0xA7)) [.r 0x4000 0x01, .r 0x400F 0x00, .r 0x4010 0xFF] =
    true := by decide
theorem test_CART_17 : accesses (loaded (image 0x4000 0x00 0x00 0xA7)) [.r 0x4000 0x00, .r 0x4134 0x54] = true := by
  decide

/-! ### Host moves (95 section 3.10) -/

theorem test_HOST_1 : hostGetReg (hostSetReg State.reset (.gp .b) 0x1FF) (.gp .b) = 0xFF#8 := by decide
theorem test_HOST_3 : hostGetPair (hostSetPair State.reset .hl 0x12345) .hl = 0x2345#16 := by decide
theorem test_HOST_4 : (hostSetPair State.reset .bc 0xBEEF).b = 0xBE#8 ∧ (hostSetPair State.reset .bc 0xBEEF).c = 0xEF#8 := by
  decide
theorem test_HOST_5 : hostGetPair (hostSetPair State.reset .af 0x12FF) .af = 0x12F0#16 := by decide
theorem test_HOST_7 : hostGetReg (hostSetReg State.reset .f 0x5A) .f = 0x50#8 := by decide
theorem test_HOST_8 : (hostSetPc State.reset 0x10000).pc = 0x0000#16 := by decide
theorem test_HOST_9 : (hostSetSp State.reset 0x1FFFE).sp = 0xFFFE#16 := by decide
theorem test_HOST_10 : memRead (raiseInterrupt { State.reset with ifReg := 0x01#5 } 4) 0xFF0F#16 = 0xF1#8 := by decide
/-- An Mbc3 cartridge with a timer, and one without. -/
def timed : State := withCart (.mbc3 (Mbc3.atReset clocks0)) 8 4 true false []
def untimed : State := withCart (.mbc3 (Mbc3.atReset none)) 8 4 false false []

theorem test_raw_clock : rawRead (rawWrite timed (.rtc .dh) 0xFF#8) (.rtc .dh) = some 0xC1#8 ∧
    rawRead (rawWrite timed (.rtc .dh) 0xFF#8) (.rtcLatched .dh) = some 0x00#8 := by decide
theorem test_raw_no_clock : rawRead untimed (.rtc .s) = none ∧ rawRead untimed (.rtcLatched .s) = none ∧
    rawWrite untimed (.rtc .s) 0x05#8 = untimed := by decide
theorem test_raw_edges : rawRead timed (.cell (.oam 0xA0#8)) = none ∧ rawRead timed (.cell (.oam 0x9F#8)) = some 0xFF#8 ∧
    rawRead timed (.cell (.cartRam 4#4 0#13)) = none ∧ rawRead timed (.cell (.io 0x03#7)) = none ∧
    rawRead timed (.cell (.rom 0)) = none := by decide
theorem test_HOST_11 : steps (wake { prog [0x10#8, 0x00#8, 0x3C#8] with pc := 0xC002#16, stopped := true })
    { prog [0x10#8, 0x00#8, 0x3C#8] with pc := 0xC003#16, a := 0x01#8, cycles := 4 } = true := by decide

/-! ### Reset, and placing an instruction (log entry 7) -/

theorem test_reset_wf : State.reset.mem.wf = true := by decide
theorem test_reset_legal : State.reset.legal = true := by decide
theorem test_reset_first_step : steps State.reset { State.reset with pc := 0x0001#16, cycles := 4 } = true := by decide
theorem test_place_daa : steps (State.reset.withFetchWord 8 0x27)
    { State.reset.withFetchWord 8 0x27 with
      flags := fl 1 0 0 0, pc := 0x0001#16, cycles := 4 } = true := by decide
theorem test_place_cb : steps (State.reset.withFetchWord 16 0xCBC7)
    { State.reset.withFetchWord 16 0xCBC7 with a := 0x01#8, pc := 0x0002#16, cycles := 8 } = true := by decide
theorem test_place_ld_nn : steps (State.reset.withFetchWord 8 0x31)
    { State.reset.withFetchWord 8 0x31 with pc := 0x0003#16, cycles := 12 } = true := by decide

/-! ### Witnesses: what meets the hypotheses of the statements, clause by clause -/

theorem witness_DecodeOfEncode : Instr.wellFormed (.ld_BC_nn 0xFFFF#16) = true := by decide

/-- An instruction whose second byte lies past the top of the address space: IE holds 06, address 0000 holds 00. -/
def atTop : State := { State.reset with pc := 0xFFFF#16, ieReg := 0x06#8 }

theorem witness_FetchReadsEncoding : Instr.wellFormed (.ld_B_n 0x00#8) = true ∧
    ∀ (k : Nat) (h : k < (encode (.ld_B_n 0x00#8)).length),
      memRead atTop (atTop.pc + BitVec.ofNat 16 k) = (encode (.ld_B_n 0x00#8))[k] := by decide

theorem witness_IllegalByte_is : 0xD3#8 ∈ illegalBytes ∧ 0xFD#8 ∈ illegalBytes := by decide
theorem witness_IllegalByte_is_not : 0xCB#8 ∉ illegalBytes ∧ 0x00#8 ∉ illegalBytes ∧ 0xFF#8 ∉ illegalBytes := by decide
theorem witness_IllegalByte_step : (prog [0xFD#8]).willFetch = true ∧
    memRead (prog [0xFD#8]) (prog [0xFD#8]).pc ∈ illegalBytes := by decide

/-- Halted, with a source pending and ime = 0: the next step wakes and fetches. -/
def waking : State := { prog [0x3C#8] with halted := true, ieReg := 0x04#8, ifReg := 0x04#5, eiDelay := true }

theorem witness_StepRuns : waking.willFetch = true ∧
    decodeBytes (memRead waking waking.pc) (memRead waking (waking.pc + 1#16)) (memRead waking (waking.pc + 2#16)) = .inc_A ∧
    Instr.wellFormed .inc_A = true := by decide
theorem witness_StepRuns_ei_pending : State.willFetch { waking with eiPending := true } = true := by decide

theorem witness_Faulted : State.fault { State.reset with fault := some (.stackFault 0x0001#16) } =
    some (.stackFault 0x0001#16) := by decide
theorem witness_Stopped : State.fault { State.reset with stopped := true } = none ∧
    State.stopped { State.reset with stopped := true } = true := by decide

theorem witness_HaltedIdleStep : State.fault { State.reset with halted := true, ieReg := 0x1F#8 } = none ∧
    State.stopped { State.reset with halted := true, ieReg := 0x1F#8 } = false ∧
    State.halted { State.reset with halted := true, ieReg := 0x1F#8 } = true ∧
    State.somePending { State.reset with halted := true, ieReg := 0x1F#8 } = false := by decide

theorem witness_Halted_pending : State.fault { waking with ime := true } = none ∧
    State.stopped { waking with ime := true } = false ∧ State.halted { waking with ime := true } = true ∧
    State.somePending { waking with ime := true } = true := by decide

/-- All five sources enabled, those of `req` requested, ime = 1. -/
def interrupted (req : BitVec 5) (sp : Word) : State :=
  { prog [] with ime := true, ieReg := 0x1F#8, ifReg := req, sp := sp }

/-- The hypotheses of InterruptDispatch for source `i`. -/
def takes (s : State) (i : Nat) : Bool :=
  decide (s.fault = none) && !s.stopped && s.ime && decide (i < 5) && s.pendingSource i &&
    (List.range i).all (fun j => !s.pendingSource j)

theorem witness_InterruptDispatch_lowest : takes (interrupted 0x1F#5 0x0002#16) 0 = true ∧
    2 ≤ (interrupted 0x1F#5 0x0002#16).sp.toNat := by decide
theorem witness_InterruptDispatch_highest : takes (interrupted 0x10#5 0xFFFF#16) 4 = true ∧
    2 ≤ (interrupted 0x10#5 0xFFFF#16).sp.toNat := by decide
theorem witness_InterruptDispatch_halted : takes { interrupted 0x14#5 0xD000#16 with halted := true } 2 = true := by decide
theorem witness_InterruptDispatch_fault : takes (interrupted 0x01#5 0x0001#16) 0 = true ∧
    (interrupted 0x01#5 0x0001#16).sp.toNat < 2 := by decide
theorem witness_InterruptDispatch_none : State.ime { interrupted 0x01#5 0xD000#16 with ime := false } = false ∧
    (interrupted 0x00#5 0xD000#16).somePending = false := by decide

theorem witness_StepFaults_decode : (prog [0xD3#8]).fault = none ∧ (prog [0xD3#8]).stopped = false ∧
    ∃ f, step (prog [0xD3#8]) = .fault f := ⟨rfl, rfl, _, rfl⟩
theorem witness_StepFaults_push : ∃ f, step { prog [0xC5#8] with sp := 0x0001#16 } = .fault f := ⟨_, rfl⟩
theorem witness_StepFaults_pop : ∃ f, step { prog [0xC1#8] with sp := 0xFFFE#16 } = .fault f := ⟨_, rfl⟩
theorem witness_StepFaults_dispatch : ∃ f, step (interrupted 0x01#5 0x0001#16) = .fault f := ⟨_, rfl⟩

/-- An Mbc1 cartridge whose program writes its bank register: LD (BC),A with BC = 2000. -/
def banking : State := { wr (withCart (.mbc1 Mbc1.atReset) 8 1 false false [1]) 0xC000#16 [0x02#8] with
  pc := 0xC000#16, b := 0x20#8, a := 0x05#8 }

theorem witness_LegalStateKept : banking.legal = true ∧ ∃ t, step banking = .next t := ⟨by decide, _, rfl⟩
theorem witness_ConfigurationKept : banking.mem.wf = true ∧ ∃ t, step banking = .next t := ⟨by decide, _, rfl⟩
theorem witness_CyclesGrowByFours : ∃ t, step State.reset = .next t := ⟨_, rfl⟩
theorem witness_LegalAtReset : banking.legal = true := by decide
theorem witness_illegal_state : State.legal { State.reset with svbk := 0#3 } = false := by decide

theorem witness_IoPage_unnamed : 0x03 < 0x80 ∧ 0x03 ∉ namedIo ∧ 0x7F < 0x80 ∧ 0x7F ∉ namedIo := by decide
theorem witness_IoPage_latch : State.reset.mem.wf = true ∧ 0x00 ∈ namedIo ∧ 0x40 ∈ namedIo ∧ 0x6B ∈ namedIo ∧
    (0x40 : Nat) ≠ 0x0F ∧ (0x40 : Nat) ≠ 0x4F ∧ (0x40 : Nat) ≠ 0x70 := by decide
theorem witness_IoPage_banks : State.cgbMode { State.reset with cgbMode := true } = true := by decide

/-- Cartridge RAM enabled. -/
def ramOpen : State := withCart (.mbc1 { Mbc1.atReset with ramEnable := true }) 8 4 false false [1]

theorem witness_WriteThenRead_echo : State.reset.mem.wf = true ∧
    storeCell State.reset 0xC000#16 = some (.wram 0#3 0#12) ∧ readCell State.reset 0xE000#16 = some (.wram 0#3 0#12) := by
  decide
theorem witness_WriteThenRead_edges : storeCell State.reset 0xFFFE#16 = some (.hram 0x7E#7) ∧
    storeCell State.reset 0x8000#16 = some (.vram 0#1 0#13) ∧ storeCell State.reset 0xFE9F#16 = some (.oam 0x9F#8) ∧
    storeCell ramOpen 0xBFFF#16 = some (.cartRam 0#4 0x1FFF#13) := by decide
theorem witness_WriteFrame_other_cell : storeCell State.reset 0xC000#16 ≠ some (.wram 0#3 1#12) ∧
    storeCell State.reset 0x2000#16 ≠ some (.rom 0x2000) := by decide
theorem witness_WriteFrame_other_address : storeCell State.reset 0xC000#16 ≠ none ∧
    readCell State.reset 0xC001#16 ≠ storeCell State.reset 0xC000#16 ∧
    readCell State.reset 0xFFFF#16 ≠ storeCell State.reset 0xC000#16 := by decide
theorem witness_RegisterWriteFrame_rom : (0x7FFF#16).toNat < 0x8000 ∧ 0x8000 ≤ (0x9FFF#16).toNat ∧
    (0x9FFF#16).toNat < 0xA000 ∧ 0xC000 ≤ (0xC000#16).toNat := by decide
theorem witness_RegisterWriteFrame_dropped : 0x8000 ≤ (0xA000#16).toNat ∧ storeCell State.reset 0xA000#16 = none ∧
    0xA000#16 ∉ [0xFF0F#16, 0xFF4F#16, 0xFF70#16, 0xFFFF#16] ∧ storeCell State.reset 0xFEFF#16 = none ∧
    0xFEFF#16 ∉ [0xFF0F#16, 0xFF4F#16, 0xFF70#16, 0xFFFF#16] := by decide
theorem witness_RegisterWriteFrame_registers : 0xFFFF#16 ≠ 0xFF0F#16 ∧ 0x7FFF#16 ≠ 0xFF4F#16 ∧
    ¬(0x8000 ≤ (0x7FFF#16).toNat ∧ (0x7FFF#16).toNat < 0xA000) ∧ ¬(0x8000 ≤ (0xA000#16).toNat ∧ (0xA000#16).toNat < 0xA000) := by
  decide
theorem witness_RegisterWriteFrame_svbk : 0xE000#16 ≠ 0xFF70#16 ∧
    ¬(0xD000 ≤ (0xE000#16).toNat ∧ (0xE000#16).toNat < 0xE000) ∧ ¬(0xF000 ≤ (0xE000#16).toNat ∧ (0xE000#16).toNat < 0xFE00) ∧
    ¬(0xF000 ≤ (0xFE00#16).toNat ∧ (0xFE00#16).toNat < 0xFE00) := by decide

theorem witness_HostAddress_in : (0 : Int) ≤ 0 ∧ (0 : Int) ≤ 0xFFFF ∧ (0xFFFF : Int) ≤ 0xFFFF := by decide
theorem witness_HostAddress_out : (-1 : Int) < 0 ∧ (0xFFFF : Int) < 0x10000 := by decide
theorem witness_RegisterAccessors : HostReg.gp Reg8.l ≠ HostReg.gp Reg8.a ∧ HostReg.f ≠ HostReg.gp Reg8.a := by decide

theorem witness_BankReduction : 1 ≤ State.reset.cart.romLen ∧ 0x3FFF < 0x4000 ∧
    1 ≤ (loaded (image 0x4010 0x00 0x00 0xA7)).cart.romLen := by decide

theorem witness_RamEnable_addresses : (0x1FFF#16).toNat < 0x2000 ∧ 0x2000 ≤ (0x2000#16).toNat ∧
    0xA000 ≤ (0xBFFF#16).toNat ∧ (0xBFFF#16).toNat < 0xC000 := by decide
theorem witness_RamEnable_closed : State.reset.mbc.ramEnabled ≠ some true ∧
    Mbc.ramEnabled (.mbc1 Mbc1.atReset) ≠ some true := by decide
theorem witness_RamEnable_no_banks : blankCartridge.ramBankCount = 0 ∧
    mbcRamTarget blankCartridge (.mbc1 { Mbc1.atReset with ramEnable := true }) = .none := by decide

/-- An open Mbc3 gate with select value `sel`. -/
def selecting (sel : Byte) : Mbc3 := { Mbc3.atReset clocks0 with ramEnable := true, sel := sel }

theorem witness_RamEnable_mbc3 : blankCartridge.ramBankCount = 0 ∧ blankCartridge.hasTimer = false ∧
    (selecting 0x07#8).sel.toNat < 8 ∧ (selecting 0x03#8).sel.toNat < 4 ∧ 8 ≤ (selecting 0x08#8).sel.toNat ∧
    4 ≤ (selecting 0x04#8).sel.toNat ∧ (selecting 0x04#8).sel.toNat < 8 ∧ 13 ≤ (selecting 0x0D#8).sel.toNat := by decide

theorem witness_RomOnlyController : State.reset.mbc = .romOnly ∧ (0x3FFF#16).toNat < 0x4000 ∧
    0x4000 ≤ (0x4000#16).toNat ∧ (0x7FFF#16).toNat < 0x8000 ∧ 0xA000 ≤ (0xA000#16).toNat ∧
    (0xBFFF#16).toNat < 0xC000 := by decide
theorem witness_Mbc1_closed : banking.mbc = .mbc1 Mbc1.atReset ∧ Mbc1.atReset.ramEnable = false := by decide
theorem witness_Mbc1_open : ramOpen.mbc = .mbc1 { Mbc1.atReset with ramEnable := true } ∧
    ramOpen.cart.ramBankCount ≠ 0 := by decide
theorem witness_Mbc1_no_banks : (withCart (.mbc1 Mbc1.atReset) 8 0 false false []).cart.ramBankCount = 0 := by decide
theorem witness_Mbc3_bank : State.mbc (withCart (.mbc3 (selecting 0x03#8)) 8 4 true false []) =
    (if false then Mbc.mbc30 (selecting 0x03#8) else Mbc.mbc3 (selecting 0x03#8)) ∧
    (selecting 0x03#8).ramEnable = true ∧ (selecting 0x03#8).sel.toNat < 4 ∧
    (withCart (.mbc3 (selecting 0x03#8)) 8 4 true false []).cart.ramBankCount ≠ 0 := by decide
theorem witness_Mbc30_bank : State.mbc (withCart (.mbc30 (selecting 0x07#8)) 8 8 true false []) =
    (if true then Mbc.mbc30 (selecting 0x07#8) else Mbc.mbc3 (selecting 0x07#8)) ∧
    (selecting 0x07#8).sel.toNat < 8 ∧
    (withCart (.mbc30 (selecting 0x07#8)) 8 8 true false []).cart.ramBankCount ≠ 0 := by decide
theorem witness_Mbc3_closed_and_no_banks : (Mbc3.atReset clocks0).ramEnable = false ∧
    (withCart (.mbc3 (selecting 0x00#8)) 8 0 true false []).cart.ramBankCount = 0 := by decide
theorem witness_Mbc3_nothing : 4 ≤ (selecting 0x04#8).sel.toNat ∧ (selecting 0x04#8).sel.toNat < 8 ∧
    12 < (selecting 0x0D#8).sel.toNat ∧
    (withCart (.mbc3 { selecting 0x08#8 with clocks := none }) 8 4 false false []).cart.hasTimer = false := by decide
theorem witness_Mbc3_clock : (withCart (.mbc3 (selecting 0x0C#8)) 8 4 true false []).cart.hasTimer = true ∧
    (selecting 0x0C#8).clocks = some { rtc := Clock.ofInit zeroRtc, rtcLatched := Clock.ofInit zeroRtc } ∧
    8 ≤ (selecting 0x08#8).sel.toNat ∧ (selecting 0x0C#8).sel.toNat ≤ 12 := by decide
theorem witness_Mbc5 : State.mbc (withCart (.mbc5 Mbc5.atReset) 8 4 false true []) = .mbc5 Mbc5.atReset ∧
    Mbc5.atReset.ramEnable = false ∧
    Mbc5.ramEnable { Mbc5.atReset with ramEnable := true } = true ∧
    (withCart (.mbc5 { Mbc5.atReset with ramEnable := true }) 8 4 false true []).cart.ramBankCount ≠ 0 := by decide

/-- The last second of a day, and of day 511. -/
def endOfDay (dayHi : Bool) : Clock :=
  { sec := 59#6, min := 59#6, hour := 23#5, dayLo := 0xFF#8, dayHi := dayHi, halt := false, carry := false }

theorem witness_RtcTick : (endOfDay false).inRange = true ∧ (endOfDay false).halt = false ∧
    (endOfDay true).inRange = true ∧ (endOfDay true).halt = false := by decide

theorem witness_HostMovesKeepLegal : timed.legal = true ∧ untimed.legal = true ∧ banking.legal = true := by decide
theorem witness_clocks_illegal : State.legal { untimed with mbc := timed.mbc } = false ∧
    State.legal { timed with mbc := untimed.mbc } = false := by decide
theorem witness_RaiseInterrupt : (interrupted 0x00#5 0xD000#16).ieReg.getLsbD 4 = true := by decide
theorem witness_RawAccess : timed.mem.wf = true ∧ rawRead timed (.rtc .s) ≠ none ∧ rawRead timed (.cell (.oam 0x9F#8)) ≠ none ∧
    rawRead untimed (.rtc .s) = none ∧ RawPlace.ifReg ≠ RawPlace.rtc .s := by decide

theorem witness_LoadRefuses_short : (image 0x14F 0x00 0x00 0xA7).size < 0x150 := by decide
theorem witness_LoadRefuses_type : 0x150 ≤ (image 0x150 0x04 0x00 0x00).size ∧
    (imageByte (image 0x150 0x04 0x00 0x00).cells 0x147).toNat ∉
      [0x00, 0x01, 0x02, 0x03, 0x0F, 0x10, 0x11, 0x12, 0x13, 0x19, 0x1A, 0x1B, 0x1C, 0x1D, 0x1E] := by decide
theorem witness_LoadRefuses_ram_size : (imageByte (image 0x150 0x1E 0x06 0x00).cells 0x147).toNat ∈
      [0x00, 0x01, 0x02, 0x03, 0x0F, 0x10, 0x11, 0x12, 0x13, 0x19, 0x1A, 0x1B, 0x1C, 0x1D, 0x1E] ∧
    6 ≤ (imageByte (image 0x150 0x1E 0x06 0x00).cells 0x149).toNat := by decide
theorem witness_LoadRefuses_none : 0x150 ≤ (image 0x150 0x1E 0x05 0x00).size ∧
    (imageByte (image 0x150 0x1E 0x05 0x00).cells 0x147).toNat ∈
      [0x00, 0x01, 0x02, 0x03, 0x0F, 0x10, 0x11, 0x12, 0x13, 0x19, 0x1A, 0x1B, 0x1C, 0x1D, 0x1E] ∧
    (imageByte (image 0x150 0x1E 0x05 0x00).cells 0x149).toNat < 6 := by decide
theorem witness_LoadedMachine : ∃ s, loadOf (image 0x8000 0x10 0x03 0x94) = .next s := ⟨_, rfl⟩

/-- A state with distinct operands, for the forms of a two-operand operation. -/
def operands : State := { prog [] with a := 0x99#8, b := 0x01#8, h := 0xC1#8, l := 0x00#8 }

theorem witness_aluForm_add : aluForm .add operands .add_A_B 0x01#8 1#16 4 ∧
    aluForm .add operands .add_A_mHL 0xFF#8 1#16 8 ∧ aluForm .add operands (.add_A_n 0x7F#8) 0x7F#8 2#16 8 :=
  ⟨.inl ⟨.b, rfl, rfl, rfl, rfl⟩, .inr (.inl ⟨rfl, by decide, rfl, rfl⟩), .inr (.inr ⟨rfl, rfl, rfl⟩)⟩
theorem witness_aluForm_adc : aluForm .adc operands .adc_A_A 0x99#8 1#16 4 ∧
    aluForm .adc operands .adc_A_mHL 0xFF#8 1#16 8 ∧ aluForm .adc operands (.adc_A_n 0x7F#8) 0x7F#8 2#16 8 :=
  ⟨.inl ⟨.a, rfl, rfl, rfl, rfl⟩, .inr (.inl ⟨rfl, by decide, rfl, rfl⟩), .inr (.inr ⟨rfl, rfl, rfl⟩)⟩
theorem witness_aluForm_sub : aluForm .sub operands .sub_B 0x01#8 1#16 4 ∧
    aluForm .sub operands .sub_mHL 0xFF#8 1#16 8 ∧ aluForm .sub operands (.sub_n 0x7F#8) 0x7F#8 2#16 8 :=
  ⟨.inl ⟨.b, rfl, rfl, rfl, rfl⟩, .inr (.inl ⟨rfl, by decide, rfl, rfl⟩), .inr (.inr ⟨rfl, rfl, rfl⟩)⟩
theorem witness_aluForm_sbc : aluForm .sbc operands .sbc_A_A 0x99#8 1#16 4 ∧
    aluForm .sbc operands .sbc_A_mHL 0xFF#8 1#16 8 ∧ aluForm .sbc operands (.sbc_A_n 0x7F#8) 0x7F#8 2#16 8 :=
  ⟨.inl ⟨.a, rfl, rfl, rfl, rfl⟩, .inr (.inl ⟨rfl, by decide, rfl, rfl⟩), .inr (.inr ⟨rfl, rfl, rfl⟩)⟩
theorem witness_aluForm_and : aluForm .and operands .and_L 0x00#8 1#16 4 ∧
    aluForm .and operands .and_mHL 0xFF#8 1#16 8 ∧ aluForm .and operands (.and_n 0x7F#8) 0x7F#8 2#16 8 :=
  ⟨.inl ⟨.l, rfl, rfl, rfl, rfl⟩, .inr (.inl ⟨rfl, by decide, rfl, rfl⟩), .inr (.inr ⟨rfl, rfl, rfl⟩)⟩
theorem witness_aluForm_xor : aluForm .xor operands .xor_A 0x99#8 1#16 4 ∧
    aluForm .xor operands .xor_mHL 0xFF#8 1#16 8 ∧ aluForm .xor operands (.xor_n 0x7F#8) 0x7F#8 2#16 8 :=
  ⟨.inl ⟨.a, rfl, rfl, rfl, rfl⟩, .inr (.inl ⟨rfl, by decide, rfl, rfl⟩), .inr (.inr ⟨rfl, rfl, rfl⟩)⟩
theorem witness_aluForm_or : aluForm .or operands .or_H 0xC1#8 1#16 4 ∧
    aluForm .or operands .or_mHL 0xFF#8 1#16 8 ∧ aluForm .or operands (.or_n 0x7F#8) 0x7F#8 2#16 8 :=
  ⟨.inl ⟨.h, rfl, rfl, rfl, rfl⟩, .inr (.inl ⟨rfl, by decide, rfl, rfl⟩), .inr (.inr ⟨rfl, rfl, rfl⟩)⟩
theorem witness_aluForm_cp : aluForm .cp operands .cp_A 0x99#8 1#16 4 ∧
    aluForm .cp operands .cp_mHL 0xFF#8 1#16 8 ∧ aluForm .cp operands (.cp_n 0x7F#8) 0x7F#8 2#16 8 :=
  ⟨.inl ⟨.a, rfl, rfl, rfl, rfl⟩, .inr (.inl ⟨rfl, by decide, rfl, rfl⟩), .inr (.inr ⟨rfl, rfl, rfl⟩)⟩

theorem witness_DecimalArithmetic_add : isBcd operands.a = true ∧ isBcd 0x99#8 = true ∧
    ∃ t u, exec (.adc_A_n 0x99#8) operands = .next t ∧ exec .daa t = .next u := ⟨by decide, by decide, _, _, rfl, rfl⟩
theorem witness_DecimalArithmetic_subtract : isBcd operands.a = true ∧ isBcd 0x00#8 = true ∧
    ∃ t u, exec (.sbc_A_n 0x00#8) operands = .next t ∧ exec .daa t = .next u := ⟨by decide, by decide, _, _, rfl, rfl⟩

theorem witness_push_bounds : 2 ≤ (0x0002#16).toNat ∧ 2 ≤ (0xFFFF#16).toNat ∧ (0x0001#16).toNat < 2 ∧
    (0x0000#16).toNat < 2 := by decide
theorem witness_pop_bounds : (0xFFFD#16).toNat ≤ 0xFFFD ∧ (0x0000#16).toNat ≤ 0xFFFD ∧ 0xFFFD < (0xFFFE#16).toNat ∧
    0xFFFD < (0xFFFF#16).toNat := by decide
theorem witness_Calls : State.cond operands .nz = true ∧ State.cond operands .z = false ∧ 2 ≤ operands.sp.toNat ∧
    State.cond { operands with sp := 0x0001#16 } .nz = true ∧ State.sp { operands with sp := 0x0001#16 } = 0x0001#16 := by
  decide
theorem witness_Returns : State.cond operands .nc = true ∧ State.cond operands .c = false ∧
    operands.sp.toNat ≤ 0xFFFD ∧ State.cond { operands with sp := 0xFFFE#16 } .nc = true ∧
    0xFFFD < (State.sp { operands with sp := 0xFFFE#16 }).toNat := by decide
theorem witness_PushPopRoundTrip : operands.mem.wf = true ∧ 2 ≤ operands.sp.toNat ∧
    storeCell operands (operands.sp - 1#16) ≠ none ∧ storeCell operands (operands.sp - 2#16) ≠ none := by decide
theorem witness_PushPopRoundTrip_highest : storeCell { operands with sp := 0xFFFF#16 } 0xFFFE#16 ≠ none ∧
    storeCell { operands with sp := 0xFFFF#16 } 0xFFFD#16 ≠ none := by decide

theorem witness_StoresExactly : operands.mem.wf = true ∧ (∃ t, exec .ld_mHL_A operands = .next t) ∧
    writtenCells operands (instrWrites .ld_mHL_A operands) = [.wram 0#3 0x100#12] ∧
    instrWrites .add_A_B operands = [] := ⟨by decide, ⟨_, rfl⟩, by decide, rfl⟩
theorem witness_FlagEffects_dispatch : (interrupted 0x01#5 0xD000#16).ime = true ∧
    (interrupted 0x01#5 0xD000#16).somePending = true ∧ ∃ t, step (interrupted 0x01#5 0xD000#16) = .next t :=
  ⟨by decide, by decide, _, rfl⟩


end Sys2Proof.Tests
end

section
/-!
PROOF. The rows of the opcode table by family: every instruction is one of the families of Decode.lean with its
operands, or one of the rows that stand alone; and what a family's row means is one shared form of the meanings.
-/
namespace Sys2Proof.Machine

/-- The rows as the decoder finds them (spec 30 R167, R168): a family with its operands, or a row that stands alone. A
case split on this has one case per family instead of one per row. -/
inductive Row : Instr → Prop where
  | ld (d s : Operand) : Row (ofLd d s)
  | ldImm (d : Operand) (n : Byte) : Row (ofLdImm d n)
  | inc (d : Operand) : Row (ofInc d)
  | dec (d : Operand) : Row (ofDec d)
  | alu (op : AluOp) (s : Operand) : Row (ofAlu op s)
  | aluImm (op : AluOp) (n : Byte) : Row (ofAluImm op n)
  | ldPair (p : Pair) (nn : Word) : Row (ofLdPair p nn)
  | addHl (p : Pair) : Row (ofAddHl p)
  | incPair (p : Pair) : Row (ofIncPair p)
  | decPair (p : Pair) : Row (ofDecPair p)
  | push (q : StackPair) : Row (ofPush q)
  | pop (q : StackPair) : Row (ofPop q)
  | jrIf (cc : Cond) (e : Byte) : Row (ofJr cc e)
  | jpIf (cc : Cond) (nn : Word) : Row (ofJp cc nn)
  | callIf (cc : Cond) (nn : Word) : Row (ofCall cc nn)
  | retIf (cc : Cond) : Row (ofRet cc)
  | rst (t : Fin 8) : Row (ofRst t)
  | rot (op : RotOp) (s : Operand) : Row (ofRot op s)
  | bit (b : Fin 8) (s : Operand) : Row (ofBit b s)
  | res (b : Fin 8) (s : Operand) : Row (ofRes b s)
  | set (b : Fin 8) (s : Operand) : Row (ofSet b s)
  -- loads of A and of sp that stand alone
  | ld_mBC_A : Row .ld_mBC_A | ld_A_mBC : Row .ld_A_mBC | ld_mDE_A : Row .ld_mDE_A | ld_A_mDE : Row .ld_A_mDE
  | ld_mHLinc_A : Row .ld_mHLinc_A | ld_A_mHLinc : Row .ld_A_mHLinc
  | ld_mHLdec_A : Row .ld_mHLdec_A | ld_A_mHLdec : Row .ld_A_mHLdec
  | ldh_mn_A (n : Byte) : Row (.ldh_mn_A n) | ldh_A_mn (n : Byte) : Row (.ldh_A_mn n)
  | ldh_mC_A : Row .ldh_mC_A | ldh_A_mC : Row .ldh_A_mC
  | ld_mnn_A (nn : Word) : Row (.ld_mnn_A nn) | ld_A_mnn (nn : Word) : Row (.ld_A_mnn nn)
  | ld_mnn_SP (nn : Word) : Row (.ld_mnn_SP nn) | ld_SP_HL : Row .ld_SP_HL
  | ld_HL_SPe (e : Byte) : Row (.ld_HL_SPe e) | add_SP_e (e : Byte) : Row (.add_SP_e e)
  -- operations on A and on the flags
  | rlca : Row .rlca | rrca : Row .rrca | rla : Row .rla | rra : Row .rra
  | daa : Row .daa | cpl : Row .cpl | scf : Row .scf | ccf : Row .ccf
  -- jumps, calls and returns without a condition
  | jr_e (e : Byte) : Row (.jr_e e) | jp_nn (nn : Word) : Row (.jp_nn nn) | jp_HL : Row .jp_HL
  | call_nn (nn : Word) : Row (.call_nn nn) | ret : Row .ret | reti : Row .reti
  -- control, and the bytes that are no instruction
  | nop : Row .nop | stop (n : Byte) : Row (.stop n) | di : Row .di | ei : Row .ei
  | unassigned (i : Instr) (h : i.wellFormed = false) : Row i

/-! ### The decoder answers rows, and so every instruction is one -/

theorem decodeCb_row (op : Byte) : Row (decodeCb op) := by
  unfold decodeCb
  split
  · exact .rot _ _
  · exact .bit _ _
  · exact .res _ _
  · exact .set _ _

theorem decodeX0_row (op n : Byte) (nn : Word) : Row (decodeX0 op n nn) := by
  unfold decodeX0
  split
  · split
    · exact .nop
    · exact .ld_mnn_SP nn
    · exact .stop n
    · exact .jr_e n
    all_goals exact .jrIf _ n
  · split
    iterate 4 exact .ldPair _ nn
    all_goals exact .addHl _
  · split
    · exact .ld_mBC_A
    · exact .ld_A_mBC
    · exact .ld_mDE_A
    · exact .ld_A_mDE
    · exact .ld_mHLinc_A
    · exact .ld_A_mHLinc
    · exact .ld_mHLdec_A
    · exact .ld_A_mHLdec
  · split
    iterate 4 exact .incPair _
    all_goals exact .decPair _
  · exact .inc _
  · exact .dec _
  · exact .ldImm _ n
  · split
    · exact .rlca
    · exact .rrca
    · exact .rla
    · exact .rra
    · exact .daa
    · exact .cpl
    · exact .scf
    · exact .ccf

theorem decodeX3_row (op n : Byte) (nn : Word) : Row (decodeX3 op n nn) := by
  unfold decodeX3
  split
  · split
    iterate 4 exact .retIf _
    · exact .ldh_mn_A n
    · exact .add_SP_e n
    · exact .ldh_A_mn n
    · exact .ld_HL_SPe n
  · split
    iterate 4 exact .pop _
    · exact .ret
    · exact .reti
    · exact .jp_HL
    · exact .ld_SP_HL
  · split
    iterate 4 exact .jpIf _ nn
    · exact .ldh_mC_A
    · exact .ld_mnn_A nn
    · exact .ldh_A_mC
    · exact .ld_A_mnn nn
  · split
    · exact .jp_nn nn
    · exact decodeCb_row n
    iterate 4 exact .unassigned _ rfl
    · exact .di
    · exact .ei
  · split
    iterate 4 exact .callIf _ nn
    all_goals exact .unassigned _ rfl
  · split
    iterate 4 exact .push _
    · exact .call_nn nn
    all_goals exact .unassigned _ rfl
  · exact .aluImm _ n
  · exact .rst _

theorem decodeBytes_row (b0 b1 b2 : Byte) : Row (decodeBytes b0 b1 b2) := by
  unfold decodeBytes
  split
  · exact decodeX0_row _ _ _
  · exact .ld _ _
  · exact .alu _ _
  · exact decodeX3_row _ _ _

/-- A row's own bytes decode to it: by evaluation, where a word operand is put together again from its two bytes. -/
theorem decodeBytes_encode (i : Instr) :
    decodeBytes ((encode i).getD 0 0#8) ((encode i).getD 1 0#8) ((encode i).getD 2 0#8) = i := by
  unfold encode
  cases i <;> simp only [withWord, List.getD_cons_zero, List.getD_cons_succ, List.getD_nil]
  case ld_BC_nn nn | ld_DE_nn nn | ld_HL_nn nn | ld_SP_nn nn | ld_mnn_SP nn | ld_mnn_A nn | ld_A_mnn nn | jp_nn nn
      | jp_NZ_nn nn | jp_Z_nn nn | jp_NC_nn nn | jp_C_nn nn | call_nn nn | call_NZ_nn nn | call_Z_nn nn
      | call_NC_nn nn | call_C_nn nn =>
    conv => rhs; rw [← word16_hi8_lo8 nn]
    rfl
  all_goals rfl

/-- Every instruction is a row. -/
theorem row_of (i : Instr) : Row i := by
  have h := decodeBytes_row ((encode i).getD 0 0#8) ((encode i).getD 1 0#8) ((encode i).getD 2 0#8)
  rwa [decodeBytes_encode] at h

/-! ### What the rows of a family mean -/

@[simp] theorem exec_ofLd_reg_reg (dst src : Reg8) (s : State) :
    exec (ofLd (.reg dst) (.reg src)) s = ldRegReg dst src s := by
  cases dst <;> cases src <;> rfl

@[simp] theorem exec_ofLd_reg_mHL (dst : Reg8) (s : State) : exec (ofLd (.reg dst) .mHL) s = ldRegMem dst s := by
  cases dst <;> rfl

@[simp] theorem exec_ofLd_mHL_reg (r : Reg8) (s : State) : exec (ofLd .mHL (.reg r)) s = ldMemReg r s := by
  cases r <;> rfl

@[simp] theorem exec_ofLd_mHL_mHL (s : State) : exec (ofLd .mHL .mHL) s = execHalt s := rfl

@[simp] theorem exec_ofLdImm_reg (dst : Reg8) (n : Byte) (s : State) :
    exec (ofLdImm (.reg dst) n) s = ldRegImm dst n s := by
  cases dst <;> rfl

@[simp] theorem exec_ofLdImm_mHL (n : Byte) (s : State) : exec (ofLdImm .mHL n) s = execLd_mHL_n n s := rfl

@[simp] theorem exec_ofInc (o : Operand) (s : State) : exec (ofInc o) s = incOperand o s := by
  rcases o with r | _
  · cases r <;> rfl
  · rfl

@[simp] theorem exec_ofDec (o : Operand) (s : State) : exec (ofDec o) s = decOperand o s := by
  rcases o with r | _
  · cases r <;> rfl
  · rfl

@[simp] theorem exec_ofAlu (op : AluOp) (o : Operand) (s : State) : exec (ofAlu op o) s = aluOperand op o s := by
  rcases o with r | _
  · cases op <;> cases r <;> rfl
  · cases op <;> rfl

@[simp] theorem exec_ofAluImm (op : AluOp) (n : Byte) (s : State) : exec (ofAluImm op n) s = aluImmediate op n s := by
  cases op <;> rfl

@[simp] theorem exec_ofLdPair (p : Pair) (nn : Word) (s : State) :
    exec (ofLdPair p nn) s = .next ((s.retire 3 12).setPair p nn) := by cases p <;> rfl

@[simp] theorem exec_ofAddHl (p : Pair) (s : State) : exec (ofAddHl p) s = addHl p s := by cases p <;> rfl

@[simp] theorem exec_ofIncPair (p : Pair) (s : State) :
    exec (ofIncPair p) s = .next ((s.retire 1 8).setPair p (s.getPair p + 1#16)) := by cases p <;> rfl

@[simp] theorem exec_ofDecPair (p : Pair) (s : State) :
    exec (ofDecPair p) s = .next ((s.retire 1 8).setPair p (s.getPair p - 1#16)) := by cases p <;> rfl

@[simp] theorem exec_ofPush (q : StackPair) (s : State) : exec (ofPush q) s = pushPair q s := by cases q <;> rfl

@[simp] theorem exec_ofPop (q : StackPair) (s : State) : exec (ofPop q) s = popPair q s := by cases q <;> rfl

@[simp] theorem exec_ofJr (cc : Cond) (e : Byte) (s : State) : exec (ofJr cc e) s = jrIf cc e s := by cases cc <;> rfl

@[simp] theorem exec_ofJp (cc : Cond) (nn : Word) (s : State) : exec (ofJp cc nn) s = jpIf cc nn s := by
  cases cc <;> rfl

@[simp] theorem exec_ofCall (cc : Cond) (nn : Word) (s : State) : exec (ofCall cc nn) s = callIf cc nn s := by
  cases cc <;> rfl

@[simp] theorem exec_ofRet (cc : Cond) (s : State) : exec (ofRet cc) s = retIf cc s := by cases cc <;> rfl

@[simp] theorem exec_ofRst (t : Fin 8) (s : State) :
    exec (ofRst t) s = callTo (BitVec.ofNat 16 (8 * t.val)) (s.retire 1 16) := by
  match t with
  | 0 | 1 | 2 | 3 | 4 | 5 | 6 | 7 => rfl

@[simp] theorem exec_ofRot (op : RotOp) (o : Operand) (s : State) : exec (ofRot op o) s = rotOperand op o s := by
  rcases o with r | _
  · cases op <;> cases r <;> rfl
  · cases op <;> rfl

@[simp] theorem exec_ofBit (b : Fin 8) (o : Operand) (s : State) : exec (ofBit b o) s = bitOperand b o s := by
  match b with
  | 0 | 1 | 2 | 3 | 4 | 5 | 6 | 7 =>
    rcases o with r | _
    · cases r <;> rfl
    · rfl

@[simp] theorem exec_ofRes (b : Fin 8) (o : Operand) (s : State) : exec (ofRes b o) s = resOperand b o s := by
  match b with
  | 0 | 1 | 2 | 3 | 4 | 5 | 6 | 7 =>
    rcases o with r | _
    · cases r <;> rfl
    · rfl

@[simp] theorem exec_ofSet (b : Fin 8) (o : Operand) (s : State) : exec (ofSet b o) s = setBitOperand b o s := by
  match b with
  | 0 | 1 | 2 | 3 | 4 | 5 | 6 | 7 =>
    rcases o with r | _
    · cases r <;> rfl
    · rfl

/-- An unassigned byte has the one meaning of 48 R356: DecodeFault with that byte. -/
theorem exec_unassigned {i : Instr} (h : i.wellFormed = false) (s : State) :
    ∃ op ∈ illegalBytes, encode i = [op] ∧ exec i s = raiseDecodeFault op s := by
  unfold Instr.wellFormed at h
  split at h
  case h_12 => exact nomatch h
  all_goals exact ⟨_, by simp [illegalBytes], rfl, rfl⟩

end Sys2Proof.Machine
end

section
/-!
PROOF. What a step is made of: changes of the CPU's own fields, writes through the bus, and the acknowledge of an
interrupt. An invariant that these three keep is kept by every step.
-/
namespace Sys2Proof.Machine

/-- `t` is `s` but for the CPU's registers and control state: nothing of the bus, of the configuration or of the fault
record differs, and `ei_pending` is set only where it was, or where EI is delayed (spec 10 R29). -/
structure CpuMove (s t : State) : Prop where
  rest : t = { t with
    fault := s.fault, ifReg := s.ifReg, ieReg := s.ieReg, svbk := s.svbk, vbk := s.vbk, mbc := s.mbc
    cart := s.cart, cgbMode := s.cgbMode, eiDelay := s.eiDelay, mem := s.mem }
  eiPending : t.eiPending = true → s.eiPending = true ∨ s.eiDelay = true

theorem CpuMove.sameBus {s t : State} (h : CpuMove s t) : SameBus s t := by
  rw [h.rest]
  exact ⟨rfl, rfl, rfl, rfl, rfl, rfl, rfl, rfl⟩

theorem CpuMove.eiDelay {s t : State} (h : CpuMove s t) : t.eiDelay = s.eiDelay := by rw [h.rest]

/-- `t` comes from `s` by changes of the CPU's own fields, bus writes, and changes of IF (an acknowledge). -/
inductive Moves (s : State) : State → Prop where
  | refl : Moves s s
  | cpu {t u : State} (m : Moves s t) (c : CpuMove t u) : Moves s u
  | write {t : State} (m : Moves s t) (a : Word) (b : Byte) : Moves s (memWrite t a b)
  | acknowledge {t : State} (m : Moves s t) (r : BitVec 5) : Moves s { t with ifReg := r }

/-! ### The updates of the meanings, as moves -/

section
variable {s t : State} (m : Moves s t)
include m

theorem Moves.retire (len : Word) (cost : Nat) : Moves s (t.retire len cost) :=
  m.cpu ⟨rfl, .inl⟩

theorem Moves.jump (target : Word) : Moves s (t.jump target) :=
  m.cpu ⟨rfl, .inl⟩

theorem Moves.setFlags (f : Flags) : Moves s (t.setFlags f) :=
  m.cpu ⟨rfl, .inl⟩

theorem Moves.setHl (v : Word) : Moves s (t.setHl v) :=
  m.cpu ⟨rfl, .inl⟩

theorem Moves.setSp (v : Word) : Moves s { t with sp := v } :=
  m.cpu ⟨rfl, .inl⟩

theorem Moves.setReg (r : Reg8) (v : Byte) : Moves s (t.setReg r v) := by
  cases r <;> exact m.cpu ⟨rfl, .inl⟩

theorem Moves.setPair (p : Pair) (v : Word) : Moves s (t.setPair p v) := by
  cases p <;> exact m.cpu ⟨rfl, .inl⟩

theorem Moves.setStackPair (q : StackPair) (v : Word) : Moves s (t.setStackPair q v) := by
  cases q <;> exact m.cpu ⟨rfl, .inl⟩

theorem Moves.setOperand (o : Operand) (v : Byte) : Moves s (t.setOperand o v) := by
  cases o with
  | reg r => exact m.setReg r v
  | mHL => exact m.write t.hl v

theorem Moves.push16 {u : State} {v : Word} (h : push16 v t = .ok u) : Moves s u := by
  unfold Machine.push16 at h
  split at h
  · exact nomatch h
  · cases h
    exact (((m.setSp _).write _ _).setSp _).write _ _

theorem Moves.pop16 {u : State} {v : Word} (h : pop16 t = .ok (v, u)) : Moves s u := by
  unfold Machine.pop16 at h
  split at h
  · exact nomatch h
  · cases h
    exact m.setSp _

end

/-! ### The outcomes of the shared forms -/

/-- The next state an outcome answers, where it answers one, comes from `s` by moves. -/
def MovesTo (s : State) (r : Result) : Prop := ∀ t, r = .next t → Moves s t

theorem Moves.next {s t : State} (m : Moves s t) : MovesTo s (.next t) := by
  rintro _ ⟨⟩
  exact m

theorem movesTo_fault (s : State) (f : Fault) : MovesTo s (.fault f) := fun _ => nofun

theorem movesTo_ite {s : State} {c : Bool} {x y : Result} (hx : MovesTo s x) (hy : MovesTo s y) :
    MovesTo s (if c then x else y) := by
  split
  · exact hx
  · exact hy

theorem aluOperand_moves (op : AluOp) (o : Operand) (s : State) : MovesTo s (aluOperand op o s) :=
  ((Moves.refl.retire _ _).setReg _ _).setFlags _ |>.next

theorem aluImmediate_moves (op : AluOp) (n : Byte) (s : State) : MovesTo s (aluImmediate op n s) :=
  ((Moves.refl.retire _ _).setReg _ _).setFlags _ |>.next

theorem incOperand_moves (o : Operand) (s : State) : MovesTo s (incOperand o s) :=
  ((Moves.refl.retire _ _).setOperand _ _).setFlags _ |>.next

theorem decOperand_moves (o : Operand) (s : State) : MovesTo s (decOperand o s) :=
  ((Moves.refl.retire _ _).setOperand _ _).setFlags _ |>.next

theorem addHl_moves (p : Pair) (s : State) : MovesTo s (addHl p s) :=
  ((Moves.refl.retire _ _).setHl _).setFlags _ |>.next

theorem rotAccumulator_moves (op : RotOp) (s : State) : MovesTo s (rotAccumulator op s) :=
  ((Moves.refl.retire _ _).setReg _ _).setFlags _ |>.next

theorem rotOperand_moves (op : RotOp) (o : Operand) (s : State) : MovesTo s (rotOperand op o s) :=
  ((Moves.refl.retire _ _).setOperand _ _).setFlags _ |>.next

theorem bitOperand_moves (b : Fin 8) (o : Operand) (s : State) : MovesTo s (bitOperand b o s) :=
  (Moves.refl.retire _ _).setFlags _ |>.next

theorem resOperand_moves (b : Fin 8) (o : Operand) (s : State) : MovesTo s (resOperand b o s) :=
  (Moves.refl.retire _ _).setOperand _ _ |>.next

theorem setBitOperand_moves (b : Fin 8) (o : Operand) (s : State) : MovesTo s (setBitOperand b o s) :=
  (Moves.refl.retire _ _).setOperand _ _ |>.next

theorem ldAFrom_moves (addr len : Word) (cost : Nat) (s : State) : MovesTo s (ldAFrom addr len cost s) :=
  (Moves.refl.retire _ _).setReg _ _ |>.next

theorem ldATo_moves (addr len : Word) (cost : Nat) (s : State) : MovesTo s (ldATo addr len cost s) :=
  (Moves.refl.retire _ _).write _ _ |>.next

theorem ldAFromStep_moves (k : Word) (s : State) : MovesTo s (ldAFromStep k s) :=
  ((Moves.refl.retire _ _).setReg _ _).setHl _ |>.next

theorem ldAToStep_moves (k : Word) (s : State) : MovesTo s (ldAToStep k s) :=
  ((Moves.refl.retire _ _).write _ _).setHl _ |>.next

theorem jrIf_moves (cc : Cond) (e : Byte) (s : State) : MovesTo s (jrIf cc e s) :=
  movesTo_ite ((Moves.refl.retire _ _).jump _).next (Moves.refl.retire _ _).next

theorem jpIf_moves (cc : Cond) (nn : Word) (s : State) : MovesTo s (jpIf cc nn s) :=
  movesTo_ite ((Moves.refl.retire _ _).jump _).next (Moves.refl.retire _ _).next

theorem callTo_moves {s t : State} (m : Moves s t) (target : Word) : MovesTo s (callTo target t) := by
  unfold callTo
  split
  · rename_i h
    exact ((m.push16 h).jump target).next
  · exact movesTo_fault _ _

theorem retFrom_moves {s t : State} (m : Moves s t) : MovesTo s (retFrom t) := by
  unfold retFrom
  split
  · rename_i h
    exact ((m.pop16 h).jump _).next
  · exact movesTo_fault _ _

theorem callIf_moves (cc : Cond) (nn : Word) (s : State) : MovesTo s (callIf cc nn s) :=
  movesTo_ite (callTo_moves (Moves.refl.retire _ _) nn) (Moves.refl.retire _ _).next

theorem retIf_moves (cc : Cond) (s : State) : MovesTo s (retIf cc s) :=
  movesTo_ite (retFrom_moves (Moves.refl.retire _ _)) (Moves.refl.retire _ _).next

theorem pushPair_moves (q : StackPair) (s : State) : MovesTo s (pushPair q s) := by
  unfold pushPair orFault
  split
  · rename_i h
    exact ((Moves.refl.retire _ _).push16 h).next
  · exact movesTo_fault _ _

theorem popPair_moves (q : StackPair) (s : State) : MovesTo s (popPair q s) := by
  unfold popPair
  split
  · rename_i h
    exact (((Moves.refl.retire _ _).pop16 h).setStackPair q _).next
  · exact movesTo_fault _ _

theorem returnFromInterrupt_moves {s t : State} (m : Moves s t) : MovesTo s (returnFromInterrupt t) := by
  unfold returnFromInterrupt
  split
  · rename_i h
    exact Moves.next ((m.pop16 h).cpu ⟨rfl, fun h => nomatch h⟩)
  · exact movesTo_fault _ _

theorem dispatchInterrupt_moves {s t : State} (m : Moves s t) : MovesTo s (dispatchInterrupt t) := by
  have acknowledged : Moves s { t with
      ifReg := t.ifReg &&& ~~~(1#5 <<< lowestSource (pending t)), ime := false, eiPending := false } :=
    (m.acknowledge (t.ifReg &&& ~~~(1#5 <<< lowestSource (pending t)))).cpu ⟨rfl, fun h => nomatch h⟩
  unfold dispatchInterrupt
  dsimp only
  split
  · rename_i h
    exact Moves.next ((acknowledged.push16 h).cpu ⟨rfl, .inl⟩)
  · exact movesTo_fault _ _

theorem execEi_moves (s : State) : MovesTo s (execEi s) := by
  unfold execEi
  split
  · rename_i h
    exact Moves.next (Moves.refl.cpu ⟨rfl, fun _ => .inr h⟩)
  · exact Moves.next (Moves.refl.cpu ⟨rfl, .inl⟩)

/-! ### Instructions and steps -/

theorem exec_ofLd_moves (dst src : Operand) (s : State) : MovesTo s (exec (ofLd dst src) s) := by
  cases dst with
  | reg dst =>
    cases src with
    | reg src => rw [exec_ofLd_reg_reg]; exact ((Moves.refl.retire _ _).setReg _ _).next
    | mHL => rw [exec_ofLd_reg_mHL]; exact ((Moves.refl.retire _ _).setReg _ _).next
  | mHL =>
    cases src with
    | reg src => rw [exec_ofLd_mHL_reg]; exact ((Moves.refl.retire _ _).write _ _).next
    | mHL => exact Moves.next (Moves.refl.cpu ⟨rfl, .inl⟩)

theorem exec_ofLdImm_moves (dst : Operand) (n : Byte) (s : State) : MovesTo s (exec (ofLdImm dst n) s) := by
  cases dst with
  | reg dst => rw [exec_ofLdImm_reg]; exact ((Moves.refl.retire _ _).setReg _ _).next
  | mHL => exact ((Moves.refl.retire _ _).write _ _).next

/-- Every instruction is made of moves. -/
theorem exec_moves (i : Instr) (s : State) : MovesTo s (exec i s) := by
  cases row_of i with
  | ld dst src => exact exec_ofLd_moves dst src s
  | ldImm dst n => exact exec_ofLdImm_moves dst n s
  | inc o => rw [exec_ofInc]; exact incOperand_moves o s
  | dec o => rw [exec_ofDec]; exact decOperand_moves o s
  | alu op o => rw [exec_ofAlu]; exact aluOperand_moves op o s
  | aluImm op n => rw [exec_ofAluImm]; exact aluImmediate_moves op n s
  | ldPair p nn => rw [exec_ofLdPair]; exact ((Moves.refl.retire _ _).setPair p _).next
  | addHl p => rw [exec_ofAddHl]; exact addHl_moves p s
  | incPair p => rw [exec_ofIncPair]; exact ((Moves.refl.retire _ _).setPair p _).next
  | decPair p => rw [exec_ofDecPair]; exact ((Moves.refl.retire _ _).setPair p _).next
  | push q => rw [exec_ofPush]; exact pushPair_moves q s
  | pop q => rw [exec_ofPop]; exact popPair_moves q s
  | jrIf cc e => rw [exec_ofJr]; exact jrIf_moves cc e s
  | jpIf cc nn => rw [exec_ofJp]; exact jpIf_moves cc nn s
  | callIf cc nn => rw [exec_ofCall]; exact callIf_moves cc nn s
  | retIf cc => rw [exec_ofRet]; exact retIf_moves cc s
  | rst t => rw [exec_ofRst]; exact callTo_moves (Moves.refl.retire _ _) _
  | rot op o => rw [exec_ofRot]; exact rotOperand_moves op o s
  | bit b o => rw [exec_ofBit]; exact bitOperand_moves b o s
  | res b o => rw [exec_ofRes]; exact resOperand_moves b o s
  | set b o => rw [exec_ofSet]; exact setBitOperand_moves b o s
  | ld_mBC_A | ld_mDE_A | ldh_mn_A | ldh_mC_A | ld_mnn_A => exact ldATo_moves _ _ _ s
  | ld_A_mBC | ld_A_mDE | ldh_A_mn | ldh_A_mC | ld_A_mnn => exact ldAFrom_moves _ _ _ s
  | ld_mHLinc_A | ld_mHLdec_A => exact ldAToStep_moves _ s
  | ld_A_mHLinc | ld_A_mHLdec => exact ldAFromStep_moves _ s
  | ld_mnn_SP nn => exact (((Moves.refl.retire _ _).write _ _).write _ _).next
  | ld_SP_HL => exact ((Moves.refl.retire _ _).setPair .sp _).next
  | ld_HL_SPe e => exact (((Moves.refl.retire _ _).setHl _).setFlags _).next
  | add_SP_e e => exact (((Moves.refl.retire _ _).setPair .sp _).setFlags _).next
  | rlca | rrca | rla | rra => exact rotAccumulator_moves _ s
  | daa | cpl => exact (((Moves.refl.retire _ _).setReg .a _).setFlags _).next
  | scf | ccf => exact ((Moves.refl.retire _ _).setFlags _).next
  | jr_e | jp_nn | jp_HL => exact ((Moves.refl.retire _ _).jump _).next
  | call_nn nn => exact callTo_moves (Moves.refl.retire _ _) nn
  | ret => exact retFrom_moves (Moves.refl.retire _ _)
  | reti => exact returnFromInterrupt_moves (Moves.refl.retire _ _)
  | nop => exact (Moves.refl.retire _ _).next
  | stop n => exact Moves.next (Moves.refl.cpu ⟨rfl, .inl⟩)
  | di => exact Moves.next (Moves.refl.cpu ⟨rfl, fun h => nomatch h⟩)
  | ei => exact execEi_moves s
  | unassigned i h =>
    obtain ⟨op, -, -, hx⟩ := exec_unassigned h s
    rw [hx]
    exact movesTo_fault _ _

theorem wakeIfPending_moves (s : State) : Moves s (wakeIfPending s) := by
  unfold wakeIfPending
  split
  · exact .refl
  · exact Moves.refl.cpu ⟨rfl, .inl⟩

theorem Moves.finishStep {s t : State} (m : Moves s t) (i : Instr) : Moves s (finishStep i t) := by
  unfold Machine.finishStep
  split
  · exact m.cpu ⟨rfl, fun h => nomatch h⟩
  · exact m

theorem Moves.trans {s t u : State} (m : Moves s t) (m' : Moves t u) : Moves s u := by
  induction m' with
  | refl => exact m
  | cpu _ c ih => exact ih.cpu c
  | write _ a b ih => exact ih.write a b
  | acknowledge _ r ih => exact ih.acknowledge r

/-- Every step is made of moves. -/
theorem step_moves {s t : State} (h : step s = .next t) : Moves s t := by
  obtain ⟨-, -, ⟨-, -, hd⟩ | ⟨-, rfl⟩ | ⟨u, hu, rfl⟩⟩ := step_cases h
  · exact dispatchInterrupt_moves (wakeIfPending_moves s) t hd
  · exact (wakeIfPending_moves s).cpu ⟨rfl, .inl⟩
  · exact ((wakeIfPending_moves s).trans (exec_moves _ _ u hu)).finishStep _

end Sys2Proof.Machine
end

section
/-!
PROOF. O13: no move changes the ROM image, the configuration or the kind of the controller, and none leaves memory
out of canonical form.
-/
namespace Sys2Proof.Machine

/-- What a load fixed for `s` stands in `t`, whose memory is in canonical form (spec 10 R41, R42, R47). -/
structure SameConfiguration (s t : State) : Prop where
  rom : ∀ j, cellByte t (.rom j) = cellByte s (.rom j)
  cart : t.cart = s.cart
  cgbMode : t.cgbMode = s.cgbMode
  eiDelay : t.eiDelay = s.eiDelay
  kind : t.mbc.kind = s.mbc.kind
  wf : t.mem.wf = true

theorem SameConfiguration.trans {s t u : State} (h : SameConfiguration s t) (g : SameConfiguration t u) :
    SameConfiguration s u :=
  ⟨fun j => (g.rom j).trans (h.rom j), g.cart.trans h.cart, g.cgbMode.trans h.cgbMode, g.eiDelay.trans h.eiDelay,
    g.kind.trans h.kind, g.wf⟩

theorem CpuMove.sameConfiguration {s t : State} (h : CpuMove s t) (hw : s.mem.wf = true) : SameConfiguration s t where
  rom j := by rw [cellByte, cellByte, h.sameBus.mem]
  cart := h.sameBus.cart
  cgbMode := h.sameBus.cgbMode
  eiDelay := h.eiDelay
  kind := by rw [h.sameBus.mbc]
  wf := by rw [h.sameBus.mem, hw]

/-- A bus write stores to no ROM byte and keeps the controller's kind (spec 20 R61). -/
theorem memWrite_sameConfiguration {s : State} (hw : s.mem.wf = true) (a : Word) (b : Byte) :
    SameConfiguration s (memWrite s a b) where
  rom j := cellByte_memWrite_other hw a b (storeCell_ne_rom s a j)
  cart := memWrite_cart s a b
  cgbMode := memWrite_cgbMode s a b
  eiDelay := memWrite_eiDelay s a b
  kind := memWrite_kind s a b
  wf := memWrite_mem_wf hw a b

theorem Moves.sameConfiguration {s t : State} (m : Moves s t) (hw : s.mem.wf = true) : SameConfiguration s t := by
  induction m with
  | refl => exact ⟨fun _ => rfl, rfl, rfl, rfl, rfl, hw⟩
  | cpu _ c ih => exact ih.trans (c.sameConfiguration ih.wf)
  | write _ a b ih => exact ih.trans (memWrite_sameConfiguration ih.wf a b)
  | acknowledge _ r ih => exact ih.trans ⟨fun _ => rfl, rfl, rfl, rfl, rfl, ih.wf⟩

/-- Settles O13: a step is made of moves, and each move keeps the configuration. -/
theorem configurationKept : Obligations.ConfigurationKept := by
  intro s t hw h
  obtain ⟨rom, cart, cgbMode, eiDelay, kind, wf⟩ := (step_moves h).sameConfiguration hw
  exact ⟨rom, cart, cgbMode, eiDelay, kind, wf⟩

end Sys2Proof.Machine
end

section
/-!
PROOF. O6 and O7: what a step does where nothing keeps it from fetching, and where the machine is faulted or stopped.
-/
namespace Sys2Proof.Machine

/-! ### Pending interrupts -/

theorem pending_getLsbD (s : State) {i : Nat} (h : i < 5) : (pending s).getLsbD i = s.pendingSource i := by
  simp [pending, State.pendingSource, h, Bool.and_comm]

/-- The request set is empty exactly where no source is pending (spec 60 R410). -/
theorem pending_eq_zero_iff (s : State) : pending s = 0#5 ↔ s.somePending = false := by
  have h : s.somePending = false ↔ ∀ i, i < 5 → s.pendingSource i = false := by simp [State.somePending]
  rw [h]
  constructor
  · intro hp i hi
    rw [← pending_getLsbD s hi, hp, BitVec.getLsbD_zero]
  · intro hp
    apply BitVec.eq_of_getLsbD_eq
    intro i hi
    rw [pending_getLsbD s hi, hp i hi, BitVec.getLsbD_zero]

/-! ### A step that fetches -/

/-- What keeps no step from fetching, part by part (spec 60 R402). -/
theorem State.willFetch_iff (s : State) : s.willFetch = true ↔
    s.fault = none ∧ s.stopped = false ∧ (s.halted = true → s.somePending = true) ∧
      (s.ime = true → s.somePending = false) := by
  cases hs : s.stopped <;> cases hh : s.halted <;> cases hi : s.ime <;> cases hp : s.somePending <;>
    simp [State.willFetch, hs, hh, hi, hp]

/-- A step that fetches starts awake. -/
theorem wakeIfPending_of_willFetch {s : State} (h : s.willFetch = true) :
    wakeIfPending s = { s with halted := false } := by
  obtain ⟨-, -, hh, -⟩ := s.willFetch_iff.mp h
  unfold wakeIfPending
  split
  · rename_i hp
    have hawake : s.halted = false := by
      rw [pending_eq_zero_iff] at hp
      cases he : s.halted with
      | false => rfl
      | true => exact nomatch (hh he).symm.trans hp
    rw [← hawake]
  · rfl

/-- The instruction fetched does not depend on `halted`. -/
@[simp] theorem fetchInstr_halted (s : State) (b : Bool) : fetchInstr { s with halted := b } = fetchInstr s := by
  have hb : SameBus s { s with halted := b } := ⟨rfl, rfl, rfl, rfl, rfl, rfl, rfl, rfl⟩
  simp only [fetchInstr, hb.memRead]

/-- A step that fetches is the instruction at pc, run by the machine woken, and the end of its step. -/
theorem step_of_willFetch {s : State} (h : s.willFetch = true) :
    step s = match exec (fetchInstr s) (wakeIfPending s) with
      | .next t => .next (finishStep (fetchInstr s) t)
      | .fault f => .fault f
      | .refused r => .refused r := by
  obtain ⟨hf, hs, -, hi⟩ := s.willFetch_iff.mp h
  have hnotaken : ¬ (s.ime && decide (pending s ≠ 0#5)) = true := by
    rw [Bool.and_eq_true, decide_eq_true_eq, Ne, pending_eq_zero_iff]
    exact fun hd => hd.2 (hi hd.1)
  have hawake : ¬ (wakeIfPending s).halted = true := by simp [wakeIfPending_of_willFetch h]
  have hinstr : fetchInstr (wakeIfPending s) = fetchInstr s := by simp [wakeIfPending_of_willFetch h]
  unfold step
  simp only [hf, hs, pending_wakeIfPending, wakeIfPending_ime, if_neg hnotaken, if_neg hawake, hinstr] <;> rfl

theorem isEi_eq_true_iff (i : Instr) : isEi i = true ↔ i = .ei := by
  unfold isEi
  split
  · simp
  · simp_all

/-- The end of an instruction's step, over the instruction (spec 60 R402). -/
theorem finishStep_eq (i : Instr) (t : State) : finishStep i t =
    if t.eiPending = true ∧ i ≠ .ei then { t with ime := true, eiPending := false } else t := by
  unfold finishStep
  simp only [Bool.and_eq_true, Bool.not_eq_true', ← Bool.not_eq_true, isEi_eq_true_iff, Ne]

/-- Settles O6: a step that fetches, with the instruction named by the bytes at pc. -/
theorem stepRunsDecodedInstruction : Obligations.StepRunsDecodedInstruction := by
  intro s i hfetch hi _
  have hinstr : fetchInstr s = i := hi
  rw [step_of_willFetch hfetch, hinstr, wakeIfPending_of_willFetch hfetch]
  cases exec i { s with halted := false } with
  | next t => exact congrArg Host.Outcome.next (finishStep_eq i t)
  | fault f => rfl
  | refused r => rfl

/-! ### Faulted and stopped machines -/

theorem step_of_fault {s : State} {r : FaultRecord} (h : s.fault = some r) : step s = .fault (.raised r) := by
  simp only [step, h]

theorem step_of_stopped {s : State} (hf : s.fault = none) (hs : s.stopped = true) : step s = .fault .stuck := by
  simp only [step, hf, hs, if_true]

/-- Recording the record a machine holds changes nothing. -/
theorem State.record_of_fault {s : State} {r : FaultRecord} (h : s.fault = some r) : s.record r = s := by
  rw [State.record, ← h]

/-- Settles O7: the first two tests of a step, and `Wake` by its definition. -/
theorem faultedAndStoppedHaveNoStep : Obligations.FaultedAndStoppedHaveNoStep := by
  refine ⟨fun s r h => ?_, fun s hf hs => ?_, fun s => rfl⟩
  · have hstep := step_of_fault h
    exact ⟨hstep, by simp only [hostStep, hstep, State.record_of_fault h]⟩
  · have hstep := step_of_stopped hf hs
    exact ⟨hstep, by simp only [hostStep, hstep]⟩

end Sys2Proof.Machine
end

section
/-!
PROOF. O31: the machine a load builds, from the tables of the header, the controller's power-on values and the bytes
laid out in memory.
-/
namespace Sys2Proof.Machine

/-! ### The tables of the header -/

/-- The cartridge type table, column by column (spec 20 R103). -/
theorem cartTypeOf_spec {b : Byte} {row : CartType} (h : cartTypeOf b = some row) :
    row.kind = (if b.toNat = 0 then .romOnly else if b.toNat < 0x0F then .mbc1
      else if b.toNat < 0x19 then .mbc3 else .mbc5) ∧
    row.hasRam = decide (b.toNat ∈ [0x02, 0x03, 0x10, 0x12, 0x13, 0x1A, 0x1B, 0x1D, 0x1E]) ∧
    row.hasBattery = decide (b.toNat ∈ [0x03, 0x0F, 0x10, 0x13, 0x1B, 0x1E]) ∧
    row.hasTimer = decide (b.toNat = 0x0F ∨ b.toNat = 0x10) ∧ row.hasRumble = decide (0x1C ≤ b.toNat) := by
  unfold cartTypeOf at h
  split at h
  case h_16 => exact nomatch h
  all_goals
    rename_i hb
    cases h
    rw [hb]
    decide

/-- The RAM size table (spec 20 R104). -/
theorem ramBanksOf_spec {code : Byte} {n : Nat} (h : ramBanksOf code = some n) :
    n = [0, 0, 1, 4, 16, 8].getD code.toNat 0 ∧ n ≤ 16 := by
  unfold ramBanksOf at h
  split at h
  case h_7 => exact nomatch h
  all_goals
    rename_i hc
    cases h
    rw [hc]
    decide

/-! ### The header's checksum -/

/-- The running sum of R105 subtracts each byte and one more. -/
theorem headerFold_eq (l : List Byte) (x : Byte) :
    l.foldl (fun x b => x - b - 1#8) x = x - BitVec.ofNat 8 (l.map (fun b => b.toNat + 1)).sum := by
  induction l generalizing x with
  | nil => simp
  | cons b rest ih =>
    rw [List.foldl_cons, ih, List.map_cons, List.sum_cons]
    bv_omega

/-- The checksum of the header holds where the sum and the checksum byte cancel (spec 20 R105). -/
theorem headerChecksumValid_eq (cells : List Host.Cell) : headerChecksumValid cells =
    decide ((((List.range 25).map (fun i => (imageByte cells (0x134 + i)).toNat + 1)).sum +
      (imageByte cells 0x14D).toNat) % 256 = 0) := by
  have hsum : headerSum cells = 0#8 - BitVec.ofNat 8
      ((List.range 25).map (fun i => (imageByte cells (0x134 + i)).toNat + 1)).sum := by
    rw [headerSum, headerFold_eq, imageBytes, List.map_map]
    rfl
  unfold headerChecksumValid
  rw [hsum]
  generalize ((List.range 25).map (fun i => (imageByte cells (0x134 + i)).toNat + 1)).sum = n
  apply decide_eq_decide.mpr
  bv_omega

/-- Bit 7 of the CGB flag byte, as a bound on the byte. -/
theorem cgbIndicated_iff (cells : List Host.Cell) :
    cgbIndicated cells = true ↔ 0x80 ≤ (imageByte cells 0x143).toNat := by
  rw [cgbIndicated, ← BitVec.msb_eq_getLsbD_last, BitVec.msb_eq_decide, decide_eq_true_eq]

/-! ### Bytes laid out in memory -/

theorem imageByte_of_unlisted {cells : List Host.Cell} {j : Nat} (h : cells.all (fun c => c.1 ≠ j) = true) :
    imageByte cells j = 0x00#8 := by
  induction cells with
  | nil => rfl
  | cons c rest ih =>
    rw [List.all_cons, Bool.and_eq_true, decide_eq_true_eq] at h
    obtain ⟨hc, hrest⟩ := h
    simp only [imageByte, hc, decide_false, Bool.and_false, Bool.false_eq_true, if_false, ih hrest]

/-- Laying bytes out leaves every key outside their range. -/
theorem placeCells_read_outside {base size : Nat} {m : Memory} (h : m.wf = true) (cells : List Host.Cell) {k : Nat}
    (hk : k < base ∨ base + size ≤ k) : (placeCells base size m cells).read k = m.read k := by
  induction cells generalizing m with
  | nil => rfl
  | cons c rest ih =>
    obtain ⟨j, v⟩ := c
    unfold placeCells
    split
    · rename_i hj
      rw [ih (Memory.wf_write h _ _), Memory.read_write_other h v (by omega)]
    · exact ih h

/-- A byte laid out: the one listed last for its offset, or what stood there where none is listed. -/
theorem placeCells_read_inside {base size : Nat} {m : Memory} (h : m.wf = true) (cells : List Host.Cell) {j : Nat}
    (hj : j < size) : (placeCells base size m cells).read (base + j) =
      if cells.all (fun c => c.1 ≠ j) then m.read (base + j) else imageByte cells j := by
  induction cells generalizing m with
  | nil => rfl
  | cons c rest ih =>
    obtain ⟨k, v⟩ := c
    have hread : (if k < size then m.write (base + k) v else m).read (base + j) =
        if k = j then v else m.read (base + j) := by
      by_cases hkj : k = j
      · simp [hkj, hj, Memory.read_write_same h]
      · rw [if_neg hkj]
        split
        · exact Memory.read_write_other h v (by omega)
        · rfl
    have hwf : (if k < size then m.write (base + k) v else m).wf = true := by
      split
      · exact Memory.wf_write h _ _
      · exact h
    rw [placeCells, ih hwf, hread, imageByte, List.all_cons]
    generalize rest.all (fun c => c.1 ≠ j) = unlisted
    by_cases hkj : k = j
    · cases unlisted <;> simp [hkj]
    · cases unlisted <;> simp [hkj]

/-- Bytes laid out where nothing was: the bytes of the image. -/
theorem placeCells_read {base size : Nat} {m : Memory} (h : m.wf = true) (cells : List Host.Cell) {j : Nat}
    (hj : j < size) (hm : m.read (base + j) = 0x00#8) :
    (placeCells base size m cells).read (base + j) = imageByte cells j := by
  rw [placeCells_read_inside h cells hj]
  split
  · rename_i hall
    rw [hm, imageByte_of_unlisted hall]
  · rfl

/-! ### The load -/

/-- The machine a load builds for a type row and a RAM bank count (spec 20 R100 to R108). -/
def loadedState (p : Params) (row : CartType) (ramBanks : Nat) : State :=
  { State.reset with
    mbc := Mbc.powerOn p.rtcInit row.hasTimer
      (mbcKindOf row.kind (romBankCount (deriveCartridge p.rom row ramBanks)) ramBanks)
    cart := deriveCartridge p.rom row ramBanks
    cgbMode := p.cgbMode.getD (cgbIndicated p.rom.cells)
    eiDelay := p.eiDelay
    mem := placeCells romBase p.rom.size
      (placeCells cartRamBase (ramBanks * ramBankSize) [] p.cartRamInit) p.rom.cells }

/-- A load that answers a machine found its type byte and its RAM size code in the tables. -/
theorem load_cases {p : Params} {s : State} (h : load p = .next s) : ∃ row ramBanks,
    cartTypeOf (imageByte p.rom.cells 0x147) = some row ∧ ramBanksOf (imageByte p.rom.cells 0x149) = some ramBanks ∧
    s = loadedState p row ramBanks := by
  unfold load at h
  split at h
  · exact nomatch h
  · split at h
    · exact nomatch h
    · rename_i row hrow
      split at h
      · exact nomatch h
      · rename_i ramBanks hbanks
        cases h
        exact ⟨row, ramBanks, hrow, hbanks, rfl⟩

theorem cartRamInit_wf (n : Nat) (cells : List Host.Cell) : (placeCells cartRamBase n [] cells).wf = true :=
  placeCells_wf _ _ rfl cells

theorem loadedState_checksumValid (p : Params) (row : CartType) (ramBanks : Nat) :
    (loadedState p row ramBanks).cart.checksumValid = headerChecksumValid p.rom.cells := by
  simp only [loadedState, deriveCartridge]

theorem romBankCount_eq (cart : Cartridge) : romBankCount cart = (cart.romLen + 0x3FFF) / 0x4000 := by
  simp only [romBankCount, romBankSize]

/-- A loaded machine is legal. -/
theorem loadedState_legal (p : Params) (row : CartType) (ramBanks : Nat) :
    (loadedState p row ramBanks).legal = true := by
  rw [State.legal_iff]
  refine ⟨placeCells_wf _ _ (cartRamInit_wf _ _) _, (by decide : 1#3 ≠ 0#3), ?_, .inr rfl⟩
  exact Mbc.powerOn_legal (deriveCartridge p.rom row ramBanks) p.rtcInit _

/-- Below cartridge RAM a loaded machine's memory is as at power-on. -/
theorem loadedState_read_below (p : Params) (row : CartType) (ramBanks : Nat) {k : Nat} (hk : k < cartRamBase) :
    (loadedState p row ramBanks).mem.read k = Memory.unlisted k := by
  have hrom : cartRamBase < romBase := by decide
  show (placeCells _ _ (placeCells _ _ [] _) _).read k = _
  rw [placeCells_read_outside (cartRamInit_wf _ _) _ (.inl (by omega)), placeCells_read_outside rfl _ (.inl hk)]
  rfl

/-- Every byte of the buses' buffers is at its power-on value after a load (spec 10 R48). -/
theorem loadedState_cellByte_below (p : Params) (row : CartType) (ramBanks : Nat) {x : Loc} (hx : x.key < ioBase) :
    cellByte (loadedState p row ramBanks) x = 0xFF#8 := by
  have hio : ioBase < cartRamBase := by decide
  rw [cellByte, loadedState_read_below p row ramBanks (by omega), Memory.unlisted, if_pos hx]

theorem loadedState_cellByte_io (p : Params) (row : CartType) (ramBanks : Nat) (off : BitVec 7) :
    cellByte (loadedState p row ramBanks) (.io off) = 0x00#8 := by
  have hkey : ioBase ≤ (Loc.io off).key ∧ (Loc.io off).key < cartRamBase := by
    simp only [Loc.key, ioBase, cartRamBase]
    omega
  rw [cellByte, loadedState_read_below p row ramBanks hkey.2, Memory.unlisted, if_neg (by omega)]

/-- The ROM of a loaded machine is the image (the cartridge RAM below it ends before the ROM's keys begin). -/
theorem loadedState_cellByte_rom (p : Params) (row : CartType) {ramBanks : Nat} (hbanks : ramBanks ≤ 16) {j : Nat}
    (hj : j < p.rom.size) : cellByte (loadedState p row ramBanks) (.rom j) = imageByte p.rom.cells j := by
  have hend : cartRamBase + ramBanks * ramBankSize ≤ romBase + j := by
    simp only [cartRamBase, ramBankSize, romBase]
    omega
  refine placeCells_read (cartRamInit_wf _ _) _ hj ?_
  rw [placeCells_read_outside rfl _ (.inr hend)]
  exact if_neg (by simp only [romBase, ioBase]; omega)

/-- The cartridge RAM of a loaded machine is CART_RAM_INIT. -/
theorem loadedState_cellByte_cartRam (p : Params) (row : CartType) {ramBanks : Nat} {bank : BitVec 4}
    (off : BitVec 13) (hbank : bank.toNat < ramBanks) :
    cellByte (loadedState p row ramBanks) (.cartRam bank off) =
      imageByte p.cartRamInit (bank.toNat * 8192 + off.toNat) := by
  have hkey : (Loc.cartRam bank off).key = cartRamBase + (bank.toNat * 8192 + off.toNat) := by
    simp only [Loc.key]
    omega
  have hrom : cartRamBase + (bank.toNat * 8192 + off.toNat) < romBase := by
    simp only [cartRamBase, romBase]
    omega
  have hin : bank.toNat * 8192 + off.toNat < ramBanks * ramBankSize := by
    simp only [ramBankSize]
    omega
  rw [cellByte, hkey]
  show (placeCells _ _ (placeCells _ _ [] _) _).read _ = _
  rw [placeCells_read_outside (cartRamInit_wf _ _) _ (.inl hrom)]
  exact placeCells_read rfl _ hin (if_neg (by simp only [cartRamBase, ioBase]; omega))

/-- The controller of a kind at power-on, with the type byte in place of the kind (spec 20 R103, R108, 10 R48). -/
theorem powerOn_of_cartTypeOf {b : Byte} {row : CartType} (h : cartTypeOf b = some row) (r : RtcInit)
    (romBanks ramBanks : Nat) :
    let clocks := if b.toNat = 0x0F ∨ b.toNat = 0x10 then
      some { rtc := Clock.ofInit r, rtcLatched := Clock.ofInit r } else none
    Mbc.powerOn r row.hasTimer (mbcKindOf row.kind romBanks ramBanks) =
      if b.toNat = 0 then .romOnly
      else if b.toNat < 0x0F then .mbc1 Mbc1.atReset
      else if b.toNat < 0x19 then
        (if 128 < romBanks ∨ 4 < ramBanks then .mbc30 (Mbc3.atReset clocks) else .mbc3 (Mbc3.atReset clocks))
      else .mbc5 Mbc5.atReset := by
  intro clocks
  obtain ⟨hkind, -, -, htimer, -⟩ := cartTypeOf_spec h
  have hclocks : Clocks.powerOn r row.hasTimer = clocks := by simp [Clocks.powerOn, htimer, clocks]
  rw [hkind]
  split
  · rfl
  split
  · rfl
  split
  · rw [mbcKindOf]
    split <;> rw [Mbc.powerOn, hclocks]
  · rfl

/-- Settles O31: the header's tables, the controller at power-on, and the bytes where the load laid them. -/
theorem loadedMachine : Obligations.LoadedMachine := by
  intro p s h
  obtain ⟨row, _, hrow, hn, rfl⟩ := load_cases h
  obtain ⟨-, hram, hbattery, htimer, hrumble⟩ := cartTypeOf_spec hrow
  obtain ⟨rfl, hle⟩ := ramBanksOf_spec hn
  intro t ramBanks romBanks k l3
  have hcount : romBankCount (deriveCartridge p.rom row ramBanks) = romBanks := romBankCount_eq _
  have hmbc : (loadedState p row ramBanks).mbc = _ := powerOn_of_cartTypeOf hrow p.rtcInit _ ramBanks
  rw [hcount] at hmbc
  have hchecksum := (loadedState_checksumValid p row ramBanks).trans (headerChecksumValid_eq p.rom.cells)
  have htitle : (if cgbIndicated p.rom.cells then 11 else 15) =
      if 0x80 ≤ (imageByte p.rom.cells 0x143).toNat then 11 else 15 := by simp only [cgbIndicated_iff]
  refine ⟨loadedState_legal p row ramBanks, hmbc, rfl, hcount, rfl, htimer, hrumble, hram, hbattery, ?_, rfl, rfl,
    hchecksum, rfl, rfl, rfl, fun bank off => loadedState_cellByte_below p row ramBanks ?_,
    fun bank off => loadedState_cellByte_below p row ramBanks ?_,
    fun off => loadedState_cellByte_below p row ramBanks ?_,
    fun off => loadedState_cellByte_below p row ramBanks ?_,
    loadedState_cellByte_io p row ramBanks, fun j hj => loadedState_cellByte_rom p row hle hj,
    fun bank off hbank => loadedState_cellByte_cartRam p row off hbank⟩
  · rw [← htitle]
    rfl
  all_goals
    simp only [Loc.key, ioBase]
    omega

end Sys2Proof.Machine
end

section
/-!
PROOF. O11, O58 and O12: the moves a step is made of keep a legal state legal, so every step does; and so do the moves
of the host and the reset event.
-/
namespace Sys2Proof.Machine

/-! ### Moves and steps -/

theorem CpuMove.legal {s t : State} (h : CpuMove s t) (hs : s.legal = true) : t.legal = true := by
  rw [State.legal_iff] at hs ⊢
  obtain ⟨hmem, hsvbk, hmbc, hei⟩ := hs
  rw [h.sameBus.mem, h.sameBus.svbk, h.sameBus.mbc, h.sameBus.cart, h.eiDelay]
  refine ⟨hmem, hsvbk, hmbc, ?_⟩
  cases hp : t.eiPending with
  | false => exact .inr rfl
  | true =>
    -- `ei_pending` is set: it was set before, or EI is delayed
    refine .inl ((h.eiPending hp).elim (fun hold => ?_) id)
    exact hei.resolve_right (by simp [hold])

theorem Moves.legal {s t : State} (m : Moves s t) (hs : s.legal = true) : t.legal = true := by
  induction m with
  | refl => exact hs
  | cpu _ c ih => exact c.legal ih
  | write _ a b ih => exact memWrite_legal ih a b
  | acknowledge _ r ih => exact ih

/-- Settles O11: a step is made of moves, and each move keeps a legal state legal. -/
theorem legalStateKept : Obligations.LegalStateKept :=
  fun _ _ hs h => (step_moves h).legal hs

/-! ### The reset event -/

/-- Settles O12: power-on values are legal, and the cartridge's part of memory keeps its canonical form. -/
theorem legalAtReset : Obligations.LegalAtReset := by
  refine ⟨rfl, fun s hs => ?_⟩
  rw [State.legal_iff] at hs ⊢
  obtain ⟨hmem, -, hmbc, -⟩ := hs
  exact ⟨Memory.wf_keepCartridge hmem, (by decide : 1#3 ≠ 0#3), Mbc.systemReset_legal hmbc, .inr rfl⟩

/-! ### The moves of the host -/

/-- A fault record is no part of what makes a state legal. -/
theorem State.record_legal {s : State} (hs : s.legal = true) (r : FaultRecord) : (s.record r).legal = true := hs

theorem hostSetReg_moves (s : State) (r : HostReg) (v : Nat) : Moves s (hostSetReg s r v) := by
  cases r with
  | gp r => exact Moves.refl.setReg r _
  | f => exact Moves.refl.setFlags _

/-- A host read leaves the machine, or writes a fault record (spec 60 R405). -/
theorem busRead_legal {s : State} (hs : s.legal = true) (addr : Int) : (busRead s addr).2.legal = true := by
  unfold busRead
  split
  · exact hs
  · exact State.record_legal hs _

theorem busWrite_legal {s : State} (hs : s.legal = true) (addr : Int) (v : Nat) :
    (busWrite s addr v).2.legal = true := by
  unfold busWrite
  split
  · exact memWrite_legal hs _ _
  · exact State.record_legal hs _

/-- A controller changed in its clock registers' values only is as legal as before. -/
theorem State.mapClocks_legal {s : State} (hs : s.legal = true) (f : Clocks → Clocks) :
    ({ s with mbc := s.mbc.mapClocks f } : State).legal = true := by
  rw [State.legal_iff] at hs ⊢
  obtain ⟨hmem, hsvbk, hmbc, hei⟩ := hs
  exact ⟨hmem, hsvbk, (Mbc.mapClocks_legal _ _ _).trans hmbc, hei⟩

theorem State.poke_legal {s : State} (hs : s.legal = true) (x : Loc) (v : Byte) : (s.poke x v).legal = true := by
  rw [State.legal_iff] at hs ⊢
  obtain ⟨hmem, hsvbk, hmbc, hei⟩ := hs
  exact ⟨Memory.wf_write hmem _ _, hsvbk, hmbc, hei⟩

/-- No raw write leaves an illegal state; SVBK is the one register where that takes a coercion (spec 10 R39). -/
theorem rawWrite_legal {s : State} (hs : s.legal = true) (place : RawPlace) (v : Byte) :
    (rawWrite s place v).legal = true := by
  cases place with
  | cell x =>
    unfold rawWrite
    dsimp only
    split
    · exact State.poke_legal hs x v
    · exact hs
  | ifReg | vbk | ieReg => exact hs
  | svbk =>
    rw [State.legal_iff] at hs ⊢
    obtain ⟨hmem, -, hmbc, hei⟩ := hs
    exact ⟨hmem, svbkOf_ne_zero v, hmbc, hei⟩
  | rtc | rtcLatched => exact State.mapClocks_legal hs _

theorem rtcTick_legal {s : State} (hs : s.legal = true) : (rtcTick s).legal = true := by
  unfold rtcTick Mbc.rtcTick
  split
  · exact State.mapClocks_legal hs _
  · exact hs

/-- `Step`: the next state, or the machine as it was with at most a fault record (spec 60 R401). -/
theorem hostStep_legal {s : State} (hs : s.legal = true) : (hostStep s).2.legal = true := by
  unfold hostStep
  split
  · rename_i h
    exact (step_moves h).legal hs
  · exact State.record_legal hs _
  · exact hs
  · exact hs

/-- Settles O58: the moves that write the CPU only are moves of a step too; each other move by its own lemma. -/
theorem hostMovesKeepLegal : Obligations.HostMovesKeepLegal := by
  intro s hs
  have cpu {t : State} (h : CpuMove s t) : t.legal = true := h.legal hs
  exact ⟨fun r v => (hostSetReg_moves s r v).legal hs, fun q v => (Moves.refl.setStackPair q _).legal hs,
    fun v => cpu ⟨rfl, .inl⟩, fun v => cpu ⟨rfl, .inl⟩, fun b => cpu ⟨rfl, .inl⟩, fun n => cpu ⟨rfl, .inl⟩,
    busRead_legal hs, busWrite_legal hs, rawWrite_legal hs, fun i => (Moves.refl.acknowledge _).legal hs,
    rtcTick_legal hs, cpu ⟨rfl, .inl⟩, hostStep_legal hs⟩

end Sys2Proof.Machine
end

section
/-!
PROOF. O4: a row's bytes decode to the row whatever stands where its encoding has no byte, so a fetch sees the row.
-/
namespace Sys2Proof.Machine

/-- A row's own bytes decode to it, with any bytes in the places its encoding leaves free (`decodeBytes_encode` has
zeros there). -/
theorem decodeBytes_encode_getD (i : Instr) (b0 b1 b2 : Byte) :
    decodeBytes ((encode i).getD 0 b0) ((encode i).getD 1 b1) ((encode i).getD 2 b2) = i := by
  unfold encode
  cases i <;> simp only [withWord, List.getD_cons_zero, List.getD_cons_succ, List.getD_nil]
  case ld_BC_nn nn | ld_DE_nn nn | ld_HL_nn nn | ld_SP_nn nn | ld_mnn_SP nn | ld_mnn_A nn | ld_A_mnn nn | jp_nn nn
      | jp_NZ_nn nn | jp_Z_nn nn | jp_NC_nn nn | jp_C_nn nn | call_nn nn | call_NZ_nn nn | call_Z_nn nn
      | call_NC_nn nn | call_C_nn nn =>
    -- the word operand is put together again from its two bytes
    conv => rhs; rw [← word16_hi8_lo8 nn]
    rfl
  all_goals rfl

/-- Settles O4: each of the three bytes fetched is the encoding's, or stands where the encoding has none. -/
theorem fetchReadsEncoding : Obligations.FetchReadsEncoding := by
  intro i s _ h
  have fetched (k : Nat) : memRead s (s.pc + BitVec.ofNat 16 k) =
      (encode i).getD k (memRead s (s.pc + BitVec.ofNat 16 k)) := by
    by_cases hk : k < (encode i).length
    · rw [List.getD_eq_getElem?_getD, List.getElem?_eq_getElem hk, Option.getD_some, h k hk]
    · rw [List.getD_eq_getElem?_getD, List.getElem?_eq_none (Nat.le_of_not_lt hk), Option.getD_none]
  have h0 := fetched 0
  rw [show s.pc + BitVec.ofNat 16 0 = s.pc from BitVec.add_zero s.pc] at h0
  rw [fetchInstr, h0, fetched 1, fetched 2]
  exact decodeBytes_encode_getD i _ _ _

end Sys2Proof.Machine
end

section
/-!
PROOF. O18: a storage cell written through the bus, read back through every address of the cell.
-/
namespace Sys2Proof.Machine

/-- Settles O18: the write stores one cell, and changes no address's cell. -/
theorem writeThenReadSameCell : Obligations.WriteThenReadSameCell := by
  intro s a b x hw hx
  refine ⟨readCell_of_storeCell hx, fun a' ha' => ?_⟩
  have hread := (readCell_poke s x b a').trans ha'
  rw [memWrite_of_storeCell b hx, memRead_of_readCell hread, cellByte_poke hw, if_pos rfl]

end Sys2Proof.Machine
end

section
/-!
PROOF. O22: registers, pairs and F through the accessors of the host, over natural numbers.
-/
namespace Sys2Proof.Machine

/-! ### F as a byte -/

theorem Flags.toByte_toNat (f : Flags) :
    f.toByte.toNat = 128 * bitNat f.z + 64 * bitNat f.n + 32 * bitNat f.h + 16 * bitNat f.c := by
  obtain ⟨z, n, h, c⟩ := f
  cases z <;> cases n <;> cases h <;> cases c <;> rfl

/-- F from a number: its bits 7 to 4 (spec 10 R24). -/
theorem Flags.ofByte_ofNat (v : Nat) : Flags.ofByte (BitVec.ofNat 8 v) =
    { z := v.testBit 7, n := v.testBit 6, h := v.testBit 5, c := v.testBit 4 } := by
  simp only [Flags.ofByte, BitVec.getLsbD_ofNat, Nat.reduceLT, decide_true, Bool.true_and]

theorem bitNat_testBit (v k : Nat) : bitNat (v.testBit k) = v / 2 ^ k % 2 := by
  rw [← Nat.toNat_testBit]
  cases v.testBit k <;> rfl

/-- F keeps the number written to it but for bits 3 to 0 (spec 10 R24). -/
theorem Flags.toByte_ofByte_toNat (v : Nat) : (Flags.ofByte (BitVec.ofNat 8 v)).toByte.toNat = v % 256 - v % 16 := by
  rw [Flags.ofByte_ofNat, Flags.toByte_toNat]
  simp only [bitNat_testBit]
  omega

/-! ### The two bytes of a number -/

theorem hi8_ofNat (v : Nat) : hi8 (BitVec.ofNat 16 v) = BitVec.ofNat 8 (v % 65536 / 256) := by
  apply BitVec.eq_of_toNat_eq
  rw [hi8_toNat, BitVec.toNat_ofNat, BitVec.toNat_ofNat]
  omega

theorem lo8_ofNat (v : Nat) : lo8 (BitVec.ofNat 16 v) = BitVec.ofNat 8 v := by
  apply BitVec.eq_of_toNat_eq
  rw [lo8_toNat, BitVec.toNat_ofNat, BitVec.toNat_ofNat]
  omega

/-- A number stored in a byte or a word is taken modulo its width (spec 10 R22). -/
theorem ofNat_mod (w v : Nat) : BitVec.ofNat w (v % 2 ^ w) = BitVec.ofNat w v := by
  apply BitVec.eq_of_toNat_eq
  rw [BitVec.toNat_ofNat, BitVec.toNat_ofNat, Nat.mod_mod]

theorem ofNat_mod_256 (v : Nat) : BitVec.ofNat 8 (v % 256) = BitVec.ofNat 8 v := ofNat_mod 8 v

theorem ofNat_mod_65536 (v : Nat) : BitVec.ofNat 16 (v % 65536) = BitVec.ofNat 16 v := ofNat_mod 16 v

/-! ### The accessors -/

theorem hostSetReg_gp_eq (s : State) (r : Reg8) (v : Nat) :
    hostSetReg s (.gp r) v = s.setReg r (BitVec.ofNat 8 (v % 256)) := by
  rw [ofNat_mod_256]
  rfl

theorem hostGetReg_hostSetReg_other (s : State) {r r' : HostReg} (v : Nat) (h : r' ≠ r) :
    hostGetReg (hostSetReg s r v) r' = hostGetReg s r' := by
  cases r with
  | gp r =>
    cases r' with
    | gp r' => exact (s.getReg_setReg r r' _).trans (if_neg (fun e => h (congrArg _ e)))
    | f => exact congrArg Flags.toByte (s.setReg_flags r _)
  | f =>
    cases r' with
    | gp r' => exact s.getReg_setFlags _ r'
    | f => exact absurd rfl h

/-- A pair set reads back, AF but for bits 3 to 0 of F. -/
theorem hostGetPair_hostSetPair (s : State) (q : StackPair) (v : Nat) : (hostGetPair (hostSetPair s q v) q).toNat =
    if q = .af then v % 65536 - v % 16 else v % 65536 := by
  cases q with
  | af =>
    show (word16 (hi8 _) (Flags.ofByte (lo8 (BitVec.ofNat 16 v))).toByte).toNat = _
    rw [word16_toNat, hi8_toNat, lo8_ofNat, Flags.toByte_ofByte_toNat, BitVec.toNat_ofNat, if_pos rfl]
    omega
  | bc | de | hl =>
    show (word16 (hi8 _) (lo8 _)).toNat = _
    rw [word16_hi8_lo8, BitVec.toNat_ofNat]
    rfl

/-- Settles O22: registers by their accessors, pairs and F by their bytes as numbers. -/
theorem registerAccessors : Obligations.RegisterAccessors := by
  refine ⟨fun s r v => ⟨?_, ?_⟩, fun s r r' v h => hostGetReg_hostSetReg_other s v h, hostGetPair_hostSetPair,
    fun s v => ⟨Flags.toByte_ofByte_toNat v, congrArg s.setFlags (Flags.ofByte_ofNat v)⟩,
    fun s => ⟨word16_toNat _ _, word16_toNat _ _, word16_toNat _ _, ?_⟩, fun s v => ?_⟩
  · rw [hostSetReg_gp_eq]
    exact (s.getReg_setReg r r _).trans (if_pos rfl)
  · rw [hostSetReg_gp_eq]
    cases r <;> rfl
  · show (word16 s.a s.flags.toByte).toNat = _
    rw [word16_toNat, Flags.toByte_toNat]
    omega
  · simp only [hostSetPair, State.setStackPair, hi8_ofNat, lo8_ofNat, ofNat_mod_256, Flags.ofByte_ofNat, and_self]

end Sys2Proof.Machine
end

section
/-!
PROOF. O32 and O59: the values after reset, and the moves of the host that change one register.
-/
namespace Sys2Proof.Machine

theorem cellByte_reset (x : Loc) : cellByte State.reset x = Memory.unlisted x.key := rfl

/-- The buffers of bus RAM are 0xFF after reset (spec 10 R48). -/
theorem cellByte_reset_below {x : Loc} (h : x.key < ioBase) : cellByte State.reset x = 0xFF#8 := if_pos h

/-- Settles O32: registers and latches by evaluation, the buffers by where their keys stand. -/
theorem resetValues : Obligations.ResetValues := by
  refine ⟨rfl, rfl, rfl, rfl, rfl, rfl, rfl, rfl, rfl, rfl, rfl, rfl, rfl, rfl, rfl, rfl, rfl, rfl, rfl, rfl, rfl,
    fun bank off => cellByte_reset_below ?_, fun bank off => cellByte_reset_below ?_,
    fun off => cellByte_reset_below ?_, fun off => cellByte_reset_below ?_, fun off => if_neg ?_⟩
  all_goals
    simp only [Loc.key, ioBase]
    omega

/-- A raised interrupt sets its bit of IF and keeps the others (spec 10 R37). -/
theorem raiseInterrupt_ifReg_getLsbD (s : State) (i : Fin 5) (j : Nat) :
    (raiseInterrupt s i).ifReg.getLsbD j = (decide (j = i.val) || s.ifReg.getLsbD j) := by
  have hbit : (1#5 <<< i.val).getLsbD j = decide (j = i.val) := by
    by_cases hj : j < 5
    · have all : ∀ i j : Fin 5, (1#5 <<< i.val).getLsbD j.val = decide (j.val = i.val) := by decide
      exact all i ⟨j, hj⟩
    · rw [BitVec.getLsbD_of_ge _ _ (by omega), decide_eq_false (by omega)]
  show (s.ifReg ||| (1#5 <<< i.val)).getLsbD j = _
  rw [BitVec.getLsbD_or, hbit, Bool.or_comm]

/-- A raised interrupt that is enabled is pending (spec 60 R410). -/
theorem raiseInterrupt_somePending {s : State} {i : Fin 5} (h : s.ieReg.getLsbD i.val = true) :
    (raiseInterrupt s i).somePending = true := by
  have hi : (raiseInterrupt s i).pendingSource i.val = true := by
    rw [State.pendingSource, raiseInterrupt_ifReg_getLsbD, decide_eq_true rfl, Bool.true_or, Bool.true_and]
    exact h
  exact List.any_eq_true.mpr ⟨i.val, List.mem_range.mpr i.isLt, hi⟩

/-- Settles O59: each move is an update of the one field it names. -/
theorem hostMovesChangeOnlyTheirTarget : Obligations.HostMovesChangeOnlyTheirTarget := by
  intro s
  refine ⟨fun v => ?_, fun v => ?_, fun b => rfl, fun n => rfl, rfl, rfl,
    fun i => ⟨rfl, raiseInterrupt_ifReg_getLsbD s i, raiseInterrupt_somePending⟩⟩
  · rw [hostSetPc, ofNat_mod_65536]
  · rw [hostSetSp, ofNat_mod_65536]

end Sys2Proof.Machine
end

section
/-!
PROOF. O60: raw access, place by place: what a place is read as after a write to it, and that a write to one place is
seen at no other.
-/
namespace Sys2Proof.Machine

/-! ### Bytes stored in fewer bits -/

/-- A byte stored in `w` bits is read back modulo `2 ^ w`. -/
theorem setWidth_setWidth_eq_ofNat (w : Nat) (v : Byte) :
    (v.setWidth w).setWidth 8 = BitVec.ofNat 8 (v.toNat % 2 ^ w) := by
  apply BitVec.eq_of_toNat_eq
  rw [BitVec.toNat_setWidth, BitVec.toNat_setWidth, BitVec.toNat_ofNat]

theorem svbkOf_setWidth (v : Byte) :
    (svbkOf v).setWidth 8 = if v.toNat % 8 = 0 then 1#8 else BitVec.ofNat 8 (v.toNat % 8) := by
  have hzero : v.setWidth 3 = 0#3 ↔ v.toNat % 8 = 0 := by
    rw [← BitVec.toNat_inj, BitVec.toNat_setWidth]
    rfl
  unfold svbkOf
  simp only [hzero]
  split
  · rfl
  · exact setWidth_setWidth_eq_ofNat 3 v

/-! ### The clock registers -/

/-- The stored bits of a clock register (spec 20 R147). -/
def ClockReg.mask : ClockReg → Byte
  | .s | .m => 0x3F#8
  | .h => 0x1F#8
  | .dl => 0xFF#8
  | .dh => 0xC1#8

theorem Clock.readReg_writeReg_same (k : Clock) (r : ClockReg) (v : Byte) :
    (k.writeReg r v).readReg r = v &&& r.mask := by
  cases r with
  | s | m => revert v; show ∀ v : Byte, (v.setWidth 6).setWidth 8 = v &&& 0x3F#8; decide
  | h => revert v; show ∀ v : Byte, (v.setWidth 5).setWidth 8 = v &&& 0x1F#8; decide
  | dl => exact (BitVec.and_allOnes (x := v)).symm
  | dh =>
    revert v
    show ∀ v : Byte, bitAt (v.getLsbD 7) 7 ||| bitAt (v.getLsbD 6) 6 ||| bitAt (v.getLsbD 0) 0 = v &&& 0xC1#8
    decide

theorem Clock.readReg_writeReg_other (k : Clock) {r r' : ClockReg} (v : Byte) (h : r' ≠ r) :
    (k.writeReg r v).readReg r' = k.readReg r' := by
  cases r <;> cases r' <;> first | rfl | exact absurd rfl h

/-- Where a controller has no clock registers there is nothing to change. -/
theorem Mbc.mapClocks_of_none {m : Mbc} (h : m.clocks = none) (f : Clocks → Clocks) : m.mapClocks f = m := by
  cases m with
  | mbc3 l | mbc30 l =>
    have hl : l.clocks = none := h
    rw [Mbc.mapClocks, hl, Option.map_none, ← hl]
  | romOnly | mbc1 | mbc5 => rfl

/-! ### Cells -/

/-- The plain latches are the members of NAMED without IF, VBK and SVBK (spec 10 R36). -/
theorem ioPlain_iff (off : BitVec 7) : ioPlain off.toNat =
    decide (off.toNat ∈ namedIo ∧ off.toNat ≠ 0x0F ∧ off.toNat ≠ 0x4F ∧ off.toNat ≠ 0x70) := by
  have all : ∀ i : Fin 128, ioPlain i.val =
      decide (i.val ∈ namedIo ∧ i.val ≠ 0x0F ∧ i.val ≠ 0x4F ∧ i.val ≠ 0x70) := by decide
  exact all ⟨off.toNat, off.isLt⟩

/-- A raw write to a cell reaches it, or there is none and it changes nothing. -/
theorem rawWrite_cell_cases (s : State) (x : Loc) (v : Byte) :
    (x.isRaw s.cart = true ∧ rawWrite s (.cell x) v = s.poke x v) ∨
    (x.isRaw s.cart = false ∧ rawWrite s (.cell x) v = s) := by
  cases h : x.isRaw s.cart
  · exact .inr ⟨rfl, by simp [rawWrite, h]⟩
  · exact .inl ⟨rfl, by simp [rawWrite, h]⟩

theorem rawRead_cell_of_isRaw {s : State} {x : Loc} (h : x.isRaw s.cart = true) :
    rawRead s (.cell x) = some (cellByte s x) := if_pos h

theorem rawRead_cell_eq_none {s : State} {x : Loc} : rawRead s (.cell x) = none ↔ x.isRaw s.cart = false := by
  cases h : x.isRaw s.cart <;> simp [rawRead, h]

/-- A raw write reaches no ROM byte (spec 10 R41). -/
theorem cellByte_rom_rawWrite {s : State} (hw : s.mem.wf = true) (p : RawPlace) (v : Byte) (j : Nat) :
    cellByte (rawWrite s p v) (.rom j) = cellByte s (.rom j) := by
  cases p with
  | cell x =>
    obtain ⟨hx, he⟩ | ⟨-, he⟩ := rawWrite_cell_cases s x v
    · rw [he, cellByte_poke hw, if_neg]
      rintro rfl
      exact nomatch hx
    · rw [he]
  | ifReg | vbk | svbk | ieReg | rtc | rtcLatched => rfl

/-! ### One place after a write to it, and to another -/

/-- A raw write changes the storage and the registers of the bus only. -/
theorem rawWrite_frame (s : State) (p : RawPlace) (v : Byte) : rawWrite s p v = { s with
    mem := (rawWrite s p v).mem, mbc := (rawWrite s p v).mbc, ifReg := (rawWrite s p v).ifReg
    ieReg := (rawWrite s p v).ieReg, svbk := (rawWrite s p v).svbk, vbk := (rawWrite s p v).vbk } := by
  cases p with
  | cell x =>
    obtain ⟨-, he⟩ | ⟨-, he⟩ := rawWrite_cell_cases s x v
    · rw [he]
      rfl
    · rw [he]
  | ifReg | vbk | svbk | ieReg | rtc | rtcLatched => rfl

theorem rawWrite_of_rawRead_eq_none {s : State} {p : RawPlace} (h : rawRead s p = none) (v : Byte) :
    rawWrite s p v = s := by
  cases p with
  | cell x => exact if_neg (by simp [rawRead_cell_eq_none.mp h])
  | rtc | rtcLatched =>
    have hclocks : s.mbc.clocks = none := Option.map_eq_none_iff.mp h
    exact congrArg (fun m => { s with mbc := m }) (Mbc.mapClocks_of_none hclocks _)
  | ifReg | vbk | svbk | ieReg => exact nomatch h

theorem rawRead_rawWrite_other {s : State} (hw : s.mem.wf = true) {p q : RawPlace} (v : Byte) (h : q ≠ p) :
    rawRead (rawWrite s p v) q = rawRead s q := by
  cases p with
  | cell x =>
    obtain ⟨-, he⟩ | ⟨-, he⟩ := rawWrite_cell_cases s x v
    · rw [he]
      cases q with
      | cell y =>
        have hyx : y ≠ x := fun e => h (congrArg _ e)
        simp only [rawRead, State.poke_cart, cellByte_poke hw, if_neg hyx]
      | ifReg | vbk | svbk | ieReg | rtc | rtcLatched => rfl
    · rw [he]
  | ifReg | vbk | svbk | ieReg => cases q <;> first | rfl | exact absurd rfl h
  | rtc r =>
    cases q with
    | rtc r' =>
      have hr : r' ≠ r := fun e => h (congrArg _ e)
      simp [rawRead, rawWrite, mbcWriteClock, Function.comp_def, Clock.readReg_writeReg_other _ v hr]
    | rtcLatched => simp [rawRead, rawWrite, mbcWriteClock, Function.comp_def]
    | cell | ifReg | vbk | svbk | ieReg => rfl
  | rtcLatched r =>
    cases q with
    | rtcLatched r' =>
      have hr : r' ≠ r := fun e => h (congrArg _ e)
      simp [rawRead, rawWrite, mbcWriteLatched, Function.comp_def, Clock.readReg_writeReg_other _ v hr]
    | rtc => simp [rawRead, rawWrite, mbcWriteLatched, Function.comp_def]
    | cell | ifReg | vbk | svbk | ieReg => rfl

/-- The bits of a byte that a place stores; SVBK stores 1 for 0 (log entry 18). -/
def RawPlace.stored (v : Byte) : RawPlace → Byte
  | .cell _ | .ieReg => v
  | .ifReg => BitVec.ofNat 8 (v.toNat % 32)
  | .vbk => BitVec.ofNat 8 (v.toNat % 2)
  | .svbk => if v.toNat % 8 = 0 then 1#8 else BitVec.ofNat 8 (v.toNat % 8)
  | .rtc r | .rtcLatched r => v &&& r.mask

theorem rawRead_rawWrite_same {s : State} (hw : s.mem.wf = true) {p : RawPlace} (hp : rawRead s p ≠ none) (v : Byte) :
    rawRead (rawWrite s p v) p = some (p.stored v) := by
  cases p with
  | cell x =>
    obtain ⟨hx, he⟩ | ⟨hx, -⟩ := rawWrite_cell_cases s x v
    · rw [he, rawRead_cell_of_isRaw (s := s.poke x v) hx, cellByte_poke hw, if_pos rfl]
      rfl
    · exact absurd (rawRead_cell_eq_none.mpr hx) hp
  | ifReg => exact congrArg some (setWidth_setWidth_eq_ofNat 5 v)
  | vbk => exact congrArg some (setWidth_setWidth_eq_ofNat 1 v)
  | svbk => exact congrArg some (svbkOf_setWidth v)
  | ieReg => rfl
  | rtc r =>
    obtain ⟨b, hb⟩ := Option.ne_none_iff_exists'.mp hp
    obtain ⟨k, hk, -⟩ := Option.map_eq_some_iff.mp hb
    simp [rawRead, rawWrite, mbcWriteClock, hk, Clock.readReg_writeReg_same, RawPlace.stored]
  | rtcLatched r =>
    obtain ⟨b, hb⟩ := Option.ne_none_iff_exists'.mp hp
    obtain ⟨k, hk, -⟩ := Option.map_eq_some_iff.mp hb
    simp [rawRead, rawWrite, mbcWriteLatched, hk, Clock.readReg_writeReg_same, RawPlace.stored]

/-- Settles O60: which places exist, by the cells and clock registers a machine has; then the laws of a raw write. -/
theorem rawAccess : Obligations.RawAccess := by
  refine ⟨fun s x => ?_, fun s => ⟨rfl, rfl, rfl, rfl⟩, fun s r hs => ?_,
    fun s p v h => rawWrite_of_rawRead_eq_none h v, fun s p q v hw hp => ⟨?_, rawRead_rawWrite_other hw v,
      cellByte_rom_rawWrite hw p v, rawWrite_frame s p v⟩⟩
  · cases x with
    | io off => rw [rawRead, Loc.isRaw, ioPlain_iff]
    | vram | wram | oam | hram | cartRam | rom => rfl
  · obtain ⟨-, -, hmbc, -⟩ := s.legal_iff.mp hs
    rw [← Mbc.clocks_isSome_of_legal hmbc]
    exact ⟨Option.isSome_map, Option.isSome_map⟩
  · rw [rawRead_rawWrite_same hw hp]
    cases p with
    | rtc r | rtcLatched r => cases r <;> rfl
    | cell | ifReg | vbk | svbk | ieReg => rfl

end Sys2Proof.Machine
end

section
/-!
PROOF. O14: what an instruction costs, form by form, and so what a step costs.
-/
namespace Sys2Proof.Machine

/-! ### What leaves the cycle count -/

@[simp] theorem State.setOperand_cycles (s : State) (o : Operand) (v : Byte) :
    (s.setOperand o v).cycles = s.cycles := by
  cases o <;> simp [State.setOperand]

@[simp] theorem memWrite16_cycles (s : State) (a v : Word) : (memWrite16 s a v).cycles = s.cycles := by
  simp [memWrite16]

theorem push16_cycles {s t : State} {v : Word} (h : push16 v s = .ok t) : t.cycles = s.cycles := by
  unfold push16 at h
  split at h <;> cases h
  simp

theorem pop16_cycles {s t : State} {v : Word} (h : pop16 s = .ok (v, t)) : t.cycles = s.cycles := by
  unfold pop16 at h
  split at h <;> cases h
  rfl

@[simp] theorem wakeIfPending_cycles (s : State) : (wakeIfPending s).cycles = s.cycles := by
  unfold wakeIfPending
  split <;> rfl

@[simp] theorem finishStep_cycles (i : Instr) (s : State) : (finishStep i s).cycles = s.cycles := by
  unfold finishStep
  split <;> rfl

/-! ### The cost of an outcome -/

/-- The costs of a step: 4, 8, 12, 16, 20 and 24 cycles (spec 70 R490). -/
def stepCosts : List Nat := (List.range 6).map fun k => 4 * (k + 1)

/-- The next state an outcome answers, where it answers one, has a step's cost more cycles than `n`. -/
def Costs (n : Nat) (r : Result) : Prop := ∀ t, r = .next t → ∃ c ∈ stepCosts, t.cycles = n + c

theorem costs_next {n c : Nat} {t : State} (hc : c ∈ stepCosts) (h : t.cycles = n + c) : Costs n (.next t) := by
  rintro _ ⟨⟩
  exact ⟨c, hc, h⟩

theorem costs_fault (n : Nat) (f : Fault) : Costs n (.fault f) := fun _ => nofun

theorem costs_ite {n : Nat} {c : Bool} {x y : Result} (hx : Costs n x) (hy : Costs n y) :
    Costs n (if c then x else y) := by
  split
  · exact hx
  · exact hy

theorem operandCost_mem {l : List Nat} {reg mem : Nat} (hr : reg ∈ l) (hm : mem ∈ l) (o : Operand) :
    operandCost o reg mem ∈ l := by
  cases o
  · exact hr
  · exact hm

theorem aluOperand_costs (op : AluOp) (o : Operand) (s : State) : Costs s.cycles (aluOperand op o s) :=
  costs_next (operandCost_mem (by decide) (by decide) o) rfl

theorem aluImmediate_costs (op : AluOp) (n : Byte) (s : State) : Costs s.cycles (aluImmediate op n s) :=
  costs_next (c := 8) (by decide) rfl

theorem incOperand_costs (o : Operand) (s : State) : Costs s.cycles (incOperand o s) :=
  costs_next (operandCost_mem (by decide) (by decide) o) (State.setOperand_cycles _ _ _)

theorem decOperand_costs (o : Operand) (s : State) : Costs s.cycles (decOperand o s) :=
  costs_next (operandCost_mem (by decide) (by decide) o) (State.setOperand_cycles _ _ _)

theorem rotOperand_costs (op : RotOp) (o : Operand) (s : State) : Costs s.cycles (rotOperand op o s) :=
  costs_next (operandCost_mem (by decide) (by decide) o) (State.setOperand_cycles _ _ _)

theorem bitOperand_costs (b : Fin 8) (o : Operand) (s : State) : Costs s.cycles (bitOperand b o s) :=
  costs_next (operandCost_mem (by decide) (by decide) o) rfl

theorem resOperand_costs (b : Fin 8) (o : Operand) (s : State) : Costs s.cycles (resOperand b o s) :=
  costs_next (operandCost_mem (by decide) (by decide) o) (State.setOperand_cycles _ _ _)

theorem setBitOperand_costs (b : Fin 8) (o : Operand) (s : State) : Costs s.cycles (setBitOperand b o s) :=
  costs_next (operandCost_mem (by decide) (by decide) o) (State.setOperand_cycles _ _ _)

theorem exec_ofLd_costs (dst src : Operand) (s : State) : Costs s.cycles (exec (ofLd dst src) s) := by
  cases dst with
  | reg dst =>
    cases src with
    | reg src => rw [exec_ofLd_reg_reg]; exact costs_next (c := 4) (by decide) (State.setReg_cycles _ _ _)
    | mHL => rw [exec_ofLd_reg_mHL]; exact costs_next (c := 8) (by decide) (State.setReg_cycles _ _ _)
  | mHL =>
    cases src with
    | reg src => rw [exec_ofLd_mHL_reg]; exact costs_next (c := 8) (by decide) (memWrite_cycles _ _ _)
    | mHL => exact costs_next (c := 4) (by decide) rfl

theorem exec_ofLdImm_costs (dst : Operand) (n : Byte) (s : State) : Costs s.cycles (exec (ofLdImm dst n) s) := by
  cases dst with
  | reg dst => rw [exec_ofLdImm_reg]; exact costs_next (c := 8) (by decide) (State.setReg_cycles _ _ _)
  | mHL => exact costs_next (c := 12) (by decide) (memWrite_cycles _ _ _)

/-- A call, a return, a push and a pop cost what was added before the stack was used. -/
theorem callTo_costs {n c : Nat} (hc : c ∈ stepCosts) {s : State} (h : s.cycles = n + c) (target : Word) :
    Costs n (callTo target s) := by
  unfold callTo
  split
  · rename_i hp
    exact costs_next hc ((push16_cycles hp).trans h)
  · exact costs_fault _ _

theorem retFrom_costs {n c : Nat} (hc : c ∈ stepCosts) {s : State} (h : s.cycles = n + c) : Costs n (retFrom s) := by
  unfold retFrom
  split
  · rename_i hp
    exact costs_next hc ((pop16_cycles hp).trans h)
  · exact costs_fault _ _

theorem returnFromInterrupt_costs {n c : Nat} (hc : c ∈ stepCosts) {s : State} (h : s.cycles = n + c) :
    Costs n (returnFromInterrupt s) := by
  unfold returnFromInterrupt
  split
  · rename_i hp
    exact costs_next hc ((pop16_cycles hp).trans h)
  · exact costs_fault _ _

theorem pushPair_costs (q : StackPair) (s : State) : Costs s.cycles (pushPair q s) := by
  unfold pushPair orFault
  split
  · rename_i hp
    exact costs_next (c := 16) (by decide) (push16_cycles hp)
  · exact costs_fault _ _

theorem popPair_costs (q : StackPair) (s : State) : Costs s.cycles (popPair q s) := by
  unfold popPair
  split
  · rename_i hp
    exact costs_next (c := 12) (by decide) ((State.setStackPair_cycles _ _ _).trans (pop16_cycles hp))
  · exact costs_fault _ _

theorem jrIf_costs (cc : Cond) (e : Byte) (s : State) : Costs s.cycles (jrIf cc e s) :=
  costs_ite (costs_next (c := 12) (by decide) rfl) (costs_next (c := 8) (by decide) rfl)

theorem jpIf_costs (cc : Cond) (nn : Word) (s : State) : Costs s.cycles (jpIf cc nn s) :=
  costs_ite (costs_next (c := 16) (by decide) rfl) (costs_next (c := 12) (by decide) rfl)

theorem callIf_costs (cc : Cond) (nn : Word) (s : State) : Costs s.cycles (callIf cc nn s) :=
  costs_ite (callTo_costs (c := 24) (by decide) rfl nn) (costs_next (c := 12) (by decide) rfl)

theorem retIf_costs (cc : Cond) (s : State) : Costs s.cycles (retIf cc s) :=
  costs_ite (retFrom_costs (c := 20) (by decide) rfl) (costs_next (c := 8) (by decide) rfl)

theorem ldATo_costs {c : Nat} (hc : c ∈ stepCosts) (addr len : Word) (s : State) :
    Costs s.cycles (ldATo addr len c s) := costs_next hc (memWrite_cycles _ _ _)

theorem dispatchInterrupt_costs (s : State) : Costs s.cycles (dispatchInterrupt s) := by
  unfold dispatchInterrupt
  dsimp only
  split
  · rename_i hp
    have hcycles := push16_cycles hp
    exact costs_next (c := 20) (by decide) (congrArg (· + 20) hcycles)
  · exact costs_fault _ _

theorem execEi_costs (s : State) : Costs s.cycles (execEi s) :=
  costs_ite (costs_next (c := 4) (by decide) rfl) (costs_next (c := 4) (by decide) rfl)

/-! ### Instructions and steps -/

/-- Every instruction costs 4 to 24 cycles (spec 70 R490). -/
theorem exec_costs (i : Instr) (s : State) : Costs s.cycles (exec i s) := by
  cases row_of i with
  | ld dst src => exact exec_ofLd_costs dst src s
  | ldImm dst n => exact exec_ofLdImm_costs dst n s
  | inc o => rw [exec_ofInc]; exact incOperand_costs o s
  | dec o => rw [exec_ofDec]; exact decOperand_costs o s
  | alu op o => rw [exec_ofAlu]; exact aluOperand_costs op o s
  | aluImm op n => rw [exec_ofAluImm]; exact aluImmediate_costs op n s
  | ldPair p nn => rw [exec_ofLdPair]; exact costs_next (c := 12) (by decide) (State.setPair_cycles _ p _)
  | addHl p => rw [exec_ofAddHl]; exact costs_next (c := 8) (by decide) rfl
  | incPair p => rw [exec_ofIncPair]; exact costs_next (c := 8) (by decide) (State.setPair_cycles _ p _)
  | decPair p => rw [exec_ofDecPair]; exact costs_next (c := 8) (by decide) (State.setPair_cycles _ p _)
  | push q => rw [exec_ofPush]; exact pushPair_costs q s
  | pop q => rw [exec_ofPop]; exact popPair_costs q s
  | jrIf cc e => rw [exec_ofJr]; exact jrIf_costs cc e s
  | jpIf cc nn => rw [exec_ofJp]; exact jpIf_costs cc nn s
  | callIf cc nn => rw [exec_ofCall]; exact callIf_costs cc nn s
  | retIf cc => rw [exec_ofRet]; exact retIf_costs cc s
  | rst t => rw [exec_ofRst]; exact callTo_costs (c := 16) (by decide) rfl _
  | rot op o => rw [exec_ofRot]; exact rotOperand_costs op o s
  | bit b o => rw [exec_ofBit]; exact bitOperand_costs b o s
  | res b o => rw [exec_ofRes]; exact resOperand_costs b o s
  | set b o => rw [exec_ofSet]; exact setBitOperand_costs b o s
  | ld_mBC_A | ld_mDE_A | ldh_mn_A | ldh_mC_A | ld_mnn_A => exact ldATo_costs (by decide) _ _ s
  | ld_A_mBC | ld_A_mDE | ld_A_mHLinc | ld_A_mHLdec | ldh_A_mC | ld_SP_HL => exact costs_next (c := 8) (by decide) rfl
  | ld_mHLinc_A | ld_mHLdec_A => exact costs_next (c := 8) (by decide) (memWrite_cycles _ _ _)
  | ldh_A_mn | ld_HL_SPe => exact costs_next (c := 12) (by decide) rfl
  | ld_A_mnn | add_SP_e => exact costs_next (c := 16) (by decide) rfl
  | ld_mnn_SP nn => exact costs_next (c := 20) (by decide) (memWrite16_cycles _ nn _)
  | rlca | rrca | rla | rra | daa | cpl | scf | ccf => exact costs_next (c := 4) (by decide) rfl
  | jr_e => exact costs_next (c := 12) (by decide) rfl
  | jp_nn => exact costs_next (c := 16) (by decide) rfl
  | call_nn nn => exact callTo_costs (c := 24) (by decide) rfl nn
  | ret => exact retFrom_costs (c := 16) (by decide) rfl
  | reti => exact returnFromInterrupt_costs (c := 16) (by decide) rfl
  | jp_HL | nop | stop | di => exact costs_next (c := 4) (by decide) rfl
  | ei => exact execEi_costs s
  | unassigned i h =>
    obtain ⟨op, -, -, hx⟩ := exec_unassigned h s
    rw [hx]
    exact costs_fault _ _

theorem step_costs (s : State) : Costs s.cycles (step s) := by
  intro t h
  obtain ⟨-, -, ⟨-, -, hd⟩ | ⟨-, rfl⟩ | ⟨u, hu, rfl⟩⟩ := step_cases h
  · rw [← wakeIfPending_cycles s]
    exact dispatchInterrupt_costs _ t hd
  · exact ⟨4, by decide, congrArg (· + 4) (wakeIfPending_cycles s)⟩
  · rw [finishStep_cycles, ← wakeIfPending_cycles s]
    exact exec_costs _ _ u hu

/-- No move of a step writes the fault record (spec 60 R401). -/
theorem Moves.fault {s t : State} (m : Moves s t) : t.fault = s.fault := by
  induction m with
  | refl => rfl
  | cpu _ c ih => rw [c.rest, ← ih]
  | write _ a b ih => rw [memWrite_fault, ih]
  | acknowledge _ r ih => exact ih

/-- Settles O14: a step's cost is one of `stepCosts`, and a machine that steps holds no fault record. -/
theorem cyclesGrowByFours : Obligations.CyclesGrowByFours := by
  intro s t h
  obtain ⟨hf, -⟩ := step_cases h
  obtain ⟨c, hc, hcycles⟩ := step_costs s t h
  obtain ⟨k, hk, rfl⟩ := List.mem_map.mp hc
  rw [List.mem_range] at hk
  exact ⟨(step_moves h).fault.trans hf, k + 1, by omega, by omega, hcycles⟩

end Sys2Proof.Machine
end

section
/-!
PROOF. O57: the flag table, family by family: the row the table gives a family, and the flags its form leaves.
-/
namespace Sys2Proof.Machine

/-! ### The rows of the table, by family -/

/-- The row of an instruction the table does not name (spec 10 R25). -/
def keepRow : FlagRow := ⟨.keep, .keep, .keep, .keep⟩

/-- The rows of the two-operand operations. -/
def aluFlagRow : AluOp → FlagRow
  | .add | .adc => ⟨.result, .zero, .result, .result⟩
  | .sub | .sbc | .cp => ⟨.result, .one, .result, .result⟩
  | .and => ⟨.result, .zero, .one, .zero⟩
  | .xor | .or => ⟨.result, .zero, .zero, .zero⟩

/-- The rows of the rotates and shifts: SWAP leaves no carry. -/
def rotFlagRow : RotOp → FlagRow
  | .swap => ⟨.result, .zero, .zero, .zero⟩
  | .rlc | .rrc | .rl | .rr | .sla | .sra | .srl => ⟨.result, .zero, .zero, .result⟩

/-- The rows of POP: only POP AF takes flags from the stack. -/
def popFlagRow : StackPair → FlagRow
  | .af => ⟨.result, .result, .result, .result⟩
  | .bc | .de | .hl => keepRow

theorem instrFlagRow_ofLd (dst src : Operand) : instrFlagRow (ofLd dst src) = keepRow := by
  rcases dst with dst | _ <;> rcases src with src | _
  · cases dst <;> cases src <;> rfl
  · cases dst <;> rfl
  · cases src <;> rfl
  · rfl

theorem instrFlagRow_ofLdImm (dst : Operand) (n : Byte) : instrFlagRow (ofLdImm dst n) = keepRow := by
  rcases dst with dst | _
  · cases dst <;> rfl
  · rfl

theorem instrFlagRow_ofInc (o : Operand) : instrFlagRow (ofInc o) = ⟨.result, .zero, .result, .keep⟩ := by
  rcases o with r | _
  · cases r <;> rfl
  · rfl

theorem instrFlagRow_ofDec (o : Operand) : instrFlagRow (ofDec o) = ⟨.result, .one, .result, .keep⟩ := by
  rcases o with r | _
  · cases r <;> rfl
  · rfl

theorem instrFlagRow_ofAlu (op : AluOp) (o : Operand) : instrFlagRow (ofAlu op o) = aluFlagRow op := by
  rcases o with r | _
  · cases op <;> cases r <;> rfl
  · cases op <;> rfl

theorem instrFlagRow_ofAluImm (op : AluOp) (n : Byte) : instrFlagRow (ofAluImm op n) = aluFlagRow op := by
  cases op <;> rfl

theorem instrFlagRow_ofLdPair (p : Pair) (nn : Word) : instrFlagRow (ofLdPair p nn) = keepRow := by cases p <;> rfl

theorem instrFlagRow_ofAddHl (p : Pair) : instrFlagRow (ofAddHl p) = ⟨.keep, .zero, .result, .result⟩ := by
  cases p <;> rfl

theorem instrFlagRow_ofIncPair (p : Pair) : instrFlagRow (ofIncPair p) = keepRow := by cases p <;> rfl

theorem instrFlagRow_ofDecPair (p : Pair) : instrFlagRow (ofDecPair p) = keepRow := by cases p <;> rfl

theorem instrFlagRow_ofPush (q : StackPair) : instrFlagRow (ofPush q) = keepRow := by cases q <;> rfl

theorem instrFlagRow_ofPop (q : StackPair) : instrFlagRow (ofPop q) = popFlagRow q := by cases q <;> rfl

theorem instrFlagRow_ofJr (cc : Cond) (e : Byte) : instrFlagRow (ofJr cc e) = keepRow := by cases cc <;> rfl

theorem instrFlagRow_ofJp (cc : Cond) (nn : Word) : instrFlagRow (ofJp cc nn) = keepRow := by cases cc <;> rfl

theorem instrFlagRow_ofCall (cc : Cond) (nn : Word) : instrFlagRow (ofCall cc nn) = keepRow := by cases cc <;> rfl

theorem instrFlagRow_ofRet (cc : Cond) : instrFlagRow (ofRet cc) = keepRow := by cases cc <;> rfl

theorem instrFlagRow_ofRst (t : Fin 8) : instrFlagRow (ofRst t) = keepRow := by
  match t with
  | 0 | 1 | 2 | 3 | 4 | 5 | 6 | 7 => rfl

theorem instrFlagRow_ofRot (op : RotOp) (o : Operand) : instrFlagRow (ofRot op o) = rotFlagRow op := by
  rcases o with r | _
  · cases op <;> cases r <;> rfl
  · cases op <;> rfl

theorem instrFlagRow_ofBit (b : Fin 8) (o : Operand) : instrFlagRow (ofBit b o) = ⟨.result, .zero, .one, .keep⟩ := by
  match b with
  | 0 | 1 | 2 | 3 | 4 | 5 | 6 | 7 =>
    rcases o with r | _
    · cases r <;> rfl
    · rfl

theorem instrFlagRow_ofRes (b : Fin 8) (o : Operand) : instrFlagRow (ofRes b o) = keepRow := by
  match b with
  | 0 | 1 | 2 | 3 | 4 | 5 | 6 | 7 =>
    rcases o with r | _
    · cases r <;> rfl
    · rfl

theorem instrFlagRow_ofSet (b : Fin 8) (o : Operand) : instrFlagRow (ofSet b o) = keepRow := by
  match b with
  | 0 | 1 | 2 | 3 | 4 | 5 | 6 | 7 =>
    rcases o with r | _
    · cases r <;> rfl
    · rfl

/-! ### What a row allows -/

/-- The flags went from `old` to `new` as the row allows. -/
def FlagRow.allows (row : FlagRow) (old new : Flags) : Prop :=
  row.z.allows old.z new.z = true ∧ row.n.allows old.n new.n = true ∧ row.h.allows old.h new.h = true ∧
    row.c.allows old.c new.c = true

theorem keepRow_allows (f : Flags) : keepRow.allows f f := by simp [FlagRow.allows, keepRow, FlagEffect.allows]

theorem incResult_allowed (a : Byte) (f : Flags) :
    FlagRow.allows ⟨.result, .zero, .result, .keep⟩ f (incResult a f).2 := by
  simp [FlagRow.allows, FlagEffect.allows, incResult]

theorem decResult_allowed (a : Byte) (f : Flags) :
    FlagRow.allows ⟨.result, .one, .result, .keep⟩ f (decResult a f).2 := by
  simp [FlagRow.allows, FlagEffect.allows, decResult]

theorem aluResult_allowed (op : AluOp) (a v : Byte) (f : Flags) : (aluFlagRow op).allows f (aluResult op a v f).2 := by
  cases op <;> exact ⟨rfl, rfl, rfl, rfl⟩

theorem addHlResult_allowed (a v : Word) (f : Flags) :
    FlagRow.allows ⟨.keep, .zero, .result, .result⟩ f (addHlResult a v f).2 := by
  simp [FlagRow.allows, FlagEffect.allows, addHlResult]

theorem rotFlags_allowed (op : RotOp) (a : Byte) (f : Flags) :
    (rotFlagRow op).allows f (rotFlags (rotResult op a f.c).1 (rotResult op a f.c).2) := by
  cases op <;> exact ⟨rfl, rfl, rfl, rfl⟩

theorem bitFlags_allowed (b : Fin 8) (a : Byte) (f : Flags) :
    FlagRow.allows ⟨.result, .zero, .one, .keep⟩ f (bitFlags b a f) := by
  simp [FlagRow.allows, FlagEffect.allows, bitFlags]

theorem daaResult_allowed (a : Byte) (f : Flags) :
    FlagRow.allows ⟨.result, .keep, .zero, .result⟩ f (daaResult a f).2 := by
  unfold daaResult
  split <;> simp [FlagRow.allows, FlagEffect.allows]

theorem cplResult_allowed (a : Byte) (f : Flags) : FlagRow.allows ⟨.keep, .one, .one, .keep⟩ f (cplResult a f).2 := by
  simp [FlagRow.allows, FlagEffect.allows, cplResult]

theorem scfFlags_allowed (f : Flags) : FlagRow.allows ⟨.keep, .zero, .zero, .one⟩ f (scfFlags f) := by
  simp [FlagRow.allows, FlagEffect.allows, scfFlags]

theorem ccfFlags_allowed (f : Flags) : FlagRow.allows ⟨.keep, .zero, .zero, .result⟩ f (ccfFlags f) := by
  simp [FlagRow.allows, FlagEffect.allows, ccfFlags]

/-! ### What leaves the flags -/

@[simp] theorem State.setOperand_flags (s : State) (o : Operand) (v : Byte) : (s.setOperand o v).flags = s.flags := by
  cases o <;> simp [State.setOperand]

@[simp] theorem memWrite16_flags (s : State) (a v : Word) : (memWrite16 s a v).flags = s.flags := by simp [memWrite16]

theorem push16_flags {s t : State} {v : Word} (h : push16 v s = .ok t) : t.flags = s.flags := by
  unfold push16 at h
  split at h <;> cases h
  simp

theorem pop16_flags {s t : State} {v : Word} (h : pop16 s = .ok (v, t)) : t.flags = s.flags := by
  unfold pop16 at h
  split at h <;> cases h
  rfl

@[simp] theorem wakeIfPending_flags (s : State) : (wakeIfPending s).flags = s.flags := by
  unfold wakeIfPending
  split <;> rfl

/-! ### The flags of an outcome -/

/-- The next state an outcome answers, where it answers one, has flags the row allows after `f`. -/
def FlagsAs (row : FlagRow) (f : Flags) (r : Result) : Prop := ∀ t, r = .next t → row.allows f t.flags

theorem flagsAs_next {row : FlagRow} {f : Flags} {t : State} (h : row.allows f t.flags) : FlagsAs row f (.next t) := by
  rintro _ ⟨⟩
  exact h

theorem flagsAs_fault (row : FlagRow) (f : Flags) (r : Fault) : FlagsAs row f (.fault r) := fun _ => nofun

/-- An outcome that leaves the flags is one for the rows that keep all four. -/
theorem keepFlags_next {f : Flags} {t : State} (h : t.flags = f) : FlagsAs keepRow f (.next t) :=
  flagsAs_next (h ▸ keepRow_allows t.flags)

theorem keepFlags_ite {f : Flags} {c : Bool} {x y : Result} (hx : FlagsAs keepRow f x) (hy : FlagsAs keepRow f y) :
    FlagsAs keepRow f (if c then x else y) := by
  split
  · exact hx
  · exact hy

theorem callTo_flags (target : Word) (s : State) : FlagsAs keepRow s.flags (callTo target s) := by
  unfold callTo
  split
  · rename_i hp
    exact keepFlags_next ((State.jump_flags _ _).trans (push16_flags hp))
  · exact flagsAs_fault _ _ _

theorem retFrom_flags (s : State) : FlagsAs keepRow s.flags (retFrom s) := by
  unfold retFrom
  split
  · rename_i hp
    exact keepFlags_next ((State.jump_flags _ _).trans (pop16_flags hp))
  · exact flagsAs_fault _ _ _

theorem returnFromInterrupt_flags (s : State) : FlagsAs keepRow s.flags (returnFromInterrupt s) := by
  unfold returnFromInterrupt
  split
  · rename_i hp
    have hflags := pop16_flags hp
    exact keepFlags_next hflags
  · exact flagsAs_fault _ _ _

theorem pushPair_flags (q : StackPair) (s : State) : FlagsAs keepRow s.flags (pushPair q s) := by
  unfold pushPair orFault
  split
  · rename_i hp
    have hflags := push16_flags hp
    exact keepFlags_next hflags
  · exact flagsAs_fault _ _ _

theorem popPair_flags (q : StackPair) (s : State) : FlagsAs (popFlagRow q) s.flags (popPair q s) := by
  unfold popPair
  split
  · rename_i hp
    have hflags := pop16_flags hp
    cases q with
    | af => exact flagsAs_next ⟨rfl, rfl, rfl, rfl⟩
    | bc | de | hl => exact keepFlags_next hflags
  · exact flagsAs_fault _ _ _

theorem dispatchInterrupt_flags {s t : State} (h : dispatchInterrupt s = .next t) : t.flags = s.flags := by
  unfold dispatchInterrupt at h
  dsimp only at h
  split at h
  · rename_i hp
    have hflags := push16_flags hp
    cases h
    exact hflags
  · exact nomatch h

theorem exec_ofLd_flags (dst src : Operand) (s : State) : FlagsAs keepRow s.flags (exec (ofLd dst src) s) := by
  cases dst with
  | reg dst =>
    cases src with
    | reg src => rw [exec_ofLd_reg_reg]; exact keepFlags_next (State.setReg_flags _ _ _)
    | mHL => rw [exec_ofLd_reg_mHL]; exact keepFlags_next (State.setReg_flags _ _ _)
  | mHL =>
    cases src with
    | reg src => rw [exec_ofLd_mHL_reg]; exact keepFlags_next (memWrite_flags _ _ _)
    | mHL => exact keepFlags_next rfl

theorem exec_ofLdImm_flags (dst : Operand) (n : Byte) (s : State) :
    FlagsAs keepRow s.flags (exec (ofLdImm dst n) s) := by
  cases dst with
  | reg dst => rw [exec_ofLdImm_reg]; exact keepFlags_next (State.setReg_flags _ _ _)
  | mHL => exact keepFlags_next (memWrite_flags _ _ _)

/-- Every instruction treats each flag as its row of the table says (spec 10 R25). -/
theorem exec_flags (i : Instr) (s : State) : FlagsAs (instrFlagRow i) s.flags (exec i s) := by
  cases row_of i with
  | ld dst src => rw [instrFlagRow_ofLd]; exact exec_ofLd_flags dst src s
  | ldImm dst n => rw [instrFlagRow_ofLdImm]; exact exec_ofLdImm_flags dst n s
  | inc o => rw [instrFlagRow_ofInc, exec_ofInc]; exact flagsAs_next (incResult_allowed _ _)
  | dec o => rw [instrFlagRow_ofDec, exec_ofDec]; exact flagsAs_next (decResult_allowed _ _)
  | alu op o => rw [instrFlagRow_ofAlu, exec_ofAlu]; exact flagsAs_next (aluResult_allowed op _ _ _)
  | aluImm op n => rw [instrFlagRow_ofAluImm, exec_ofAluImm]; exact flagsAs_next (aluResult_allowed op _ _ _)
  | ldPair p nn => rw [instrFlagRow_ofLdPair, exec_ofLdPair]; exact keepFlags_next (State.setPair_flags _ p _)
  | addHl p => rw [instrFlagRow_ofAddHl, exec_ofAddHl]; exact flagsAs_next (addHlResult_allowed _ _ _)
  | incPair p => rw [instrFlagRow_ofIncPair, exec_ofIncPair]; exact keepFlags_next (State.setPair_flags _ p _)
  | decPair p => rw [instrFlagRow_ofDecPair, exec_ofDecPair]; exact keepFlags_next (State.setPair_flags _ p _)
  | push q => rw [instrFlagRow_ofPush, exec_ofPush]; exact pushPair_flags q s
  | pop q => rw [instrFlagRow_ofPop, exec_ofPop]; exact popPair_flags q s
  | jrIf cc e => rw [instrFlagRow_ofJr, exec_ofJr]; exact keepFlags_ite (keepFlags_next rfl) (keepFlags_next rfl)
  | jpIf cc nn => rw [instrFlagRow_ofJp, exec_ofJp]; exact keepFlags_ite (keepFlags_next rfl) (keepFlags_next rfl)
  | callIf cc nn =>
    rw [instrFlagRow_ofCall, exec_ofCall]
    exact keepFlags_ite (callTo_flags nn (s.retire 3 24)) (keepFlags_next rfl)
  | retIf cc =>
    rw [instrFlagRow_ofRet, exec_ofRet]
    exact keepFlags_ite (retFrom_flags (s.retire 1 20)) (keepFlags_next rfl)
  | rst t => rw [instrFlagRow_ofRst, exec_ofRst]; exact callTo_flags _ (s.retire 1 16)
  | rot op o => rw [instrFlagRow_ofRot, exec_ofRot]; exact flagsAs_next (rotFlags_allowed op _ _)
  | bit b o => rw [instrFlagRow_ofBit, exec_ofBit]; exact flagsAs_next (bitFlags_allowed b _ _)
  | res b o => rw [instrFlagRow_ofRes, exec_ofRes]; exact keepFlags_next (State.setOperand_flags _ o _)
  | set b o => rw [instrFlagRow_ofSet, exec_ofSet]; exact keepFlags_next (State.setOperand_flags _ o _)
  | ld_mBC_A | ld_mDE_A | ldh_mn_A | ldh_mC_A | ld_mnn_A | ld_mHLinc_A | ld_mHLdec_A =>
    exact keepFlags_next (memWrite_flags _ _ _)
  | ld_mnn_SP nn => exact keepFlags_next (memWrite16_flags _ nn _)
  | ld_A_mBC | ld_A_mDE | ldh_A_mn | ldh_A_mC | ld_A_mnn | ld_A_mHLinc | ld_A_mHLdec | ld_SP_HL =>
    exact keepFlags_next rfl
  | ld_HL_SPe | add_SP_e | rlca | rrca | rla | rra => exact flagsAs_next ⟨rfl, rfl, rfl, rfl⟩
  | daa => exact flagsAs_next (daaResult_allowed _ _)
  | cpl => exact flagsAs_next (cplResult_allowed s.a _)
  | scf => exact flagsAs_next (scfFlags_allowed _)
  | ccf => exact flagsAs_next (ccfFlags_allowed _)
  | jr_e | jp_nn | jp_HL | nop | stop | di => exact keepFlags_next rfl
  | call_nn nn => exact callTo_flags nn (s.retire 3 24)
  | ret => exact retFrom_flags (s.retire 1 16)
  | reti => exact returnFromInterrupt_flags (s.retire 1 16)
  | ei => exact keepFlags_ite (keepFlags_next rfl) (keepFlags_next rfl)
  | unassigned i h =>
    obtain ⟨op, -, -, hx⟩ := exec_unassigned h s
    rw [hx]
    exact flagsAs_fault _ _ _

/-! ### Interrupts -/

/-- With IME set and a source pending, a step that answers a state took the interrupt (spec 60 R402). -/
theorem dispatchInterrupt_of_step {s t : State} (hi : s.ime = true) (hp : s.somePending = true) (h : step s = .next t) :
    dispatchInterrupt (wakeIfPending s) = .next t := by
  obtain ⟨hf, hs, -⟩ := step_cases h
  have hpending : pending s ≠ 0#5 := by simp [pending_eq_zero_iff, hp]
  simpa only [step, hf, hs, pending_wakeIfPending, wakeIfPending_ime, hi, hpending, ne_eq, not_false_eq_true,
    decide_true, Bool.and_self, if_true, Bool.false_eq_true, if_false] using h

/-- Settles O57: the table instruction by instruction; a dispatch pushes pc and leaves F. -/
theorem flagEffectsTable : Obligations.FlagEffectsTable := by
  refine ⟨fun i s t h => exec_flags i s t h, fun s t hi hp h => ?_⟩
  rw [dispatchInterrupt_flags (dispatchInterrupt_of_step hi hp h), wakeIfPending_flags]

end Sys2Proof.Machine
end

section
/-!
PROOF. O15: a shift of the cycle count goes through every operation, and so through every instruction and every step.
-/
namespace Sys2Proof.Machine

/-- `n` more cycles on the count. -/
def State.addCycles (n : Nat) (s : State) : State := { s with cycles := s.cycles + n }

/-- An outcome with its next state changed by `f`. -/
def mapNext (f : State → State) : Result → Result
  | .next t => .next (f t)
  | .fault r => .fault r
  | .refused r => .refused r

@[simp] theorem mapNext_next (f : State → State) (t : State) : mapNext f (.next t) = .next (f t) := rfl
@[simp] theorem mapNext_fault (f : State → State) (r : Fault) : mapNext f (.fault r) = .fault r := rfl

@[simp] theorem mapNext_ite (f : State → State) (c : Prop) [Decidable c] (x y : Result) :
    mapNext f (if c then x else y) = if c then mapNext f x else mapNext f y := apply_ite _ _ _ _

/-! ### Reads -/

section
variable (s : State) (n : Nat)

theorem sameBus_addCycles : SameBus s (s.addCycles n) := ⟨rfl, rfl, rfl, rfl, rfl, rfl, rfl, rfl⟩

@[simp] theorem memRead_addCycles (a : Word) : memRead (s.addCycles n) a = memRead s a :=
  (sameBus_addCycles s n).memRead a

@[simp] theorem memRead16_addCycles (a : Word) : memRead16 (s.addCycles n) a = memRead16 s a := by simp [memRead16]

@[simp] theorem fetchInstr_addCycles : fetchInstr (s.addCycles n) = fetchInstr s := by
  show decodeBytes (memRead _ s.pc) (memRead _ (s.pc + 1#16)) (memRead _ (s.pc + 2#16)) = _
  simp only [memRead_addCycles]
  rfl

@[simp] theorem State.addCycles_a : (s.addCycles n).a = s.a := rfl
@[simp] theorem State.addCycles_flags : (s.addCycles n).flags = s.flags := rfl
@[simp] theorem State.addCycles_pc : (s.addCycles n).pc = s.pc := rfl
@[simp] theorem State.addCycles_sp : (s.addCycles n).sp = s.sp := rfl
@[simp] theorem State.hl_addCycles : (s.addCycles n).hl = s.hl := rfl
@[simp] theorem pending_addCycles : pending (s.addCycles n) = pending s := rfl

@[simp] theorem State.getReg_addCycles (r : Reg8) : (s.addCycles n).getReg r = s.getReg r := by cases r <;> rfl

@[simp] theorem State.getPair_addCycles (p : Pair) : (s.addCycles n).getPair p = s.getPair p := by cases p <;> rfl

@[simp] theorem State.getStackPair_addCycles (q : StackPair) : (s.addCycles n).getStackPair q = s.getStackPair q := by
  cases q <;> rfl

@[simp] theorem State.getOperand_addCycles (o : Operand) : (s.addCycles n).getOperand o = s.getOperand o := by
  cases o <;> simp [State.getOperand]

@[simp] theorem State.cond_addCycles (cc : Cond) : (s.addCycles n).cond cc = s.cond cc := by cases cc <;> rfl

/-! ### Updates -/

@[simp] theorem State.retire_addCycles (len : Word) (cost : Nat) :
    (s.addCycles n).retire len cost = (s.retire len cost).addCycles n := by
  simp only [State.addCycles, State.retire, Nat.add_right_comm]

@[simp] theorem State.jump_addCycles (target : Word) : (s.addCycles n).jump target = (s.jump target).addCycles n := rfl

@[simp] theorem State.setFlags_addCycles (f : Flags) : (s.addCycles n).setFlags f = (s.setFlags f).addCycles n := rfl

@[simp] theorem State.setHl_addCycles (v : Word) : (s.addCycles n).setHl v = (s.setHl v).addCycles n := rfl

@[simp] theorem State.setReg_addCycles (r : Reg8) (v : Byte) :
    (s.addCycles n).setReg r v = (s.setReg r v).addCycles n := by
  cases r <;> rfl

@[simp] theorem State.setPair_addCycles (p : Pair) (v : Word) :
    (s.addCycles n).setPair p v = (s.setPair p v).addCycles n := by cases p <;> rfl

@[simp] theorem State.setStackPair_addCycles (q : StackPair) (v : Word) :
    (s.addCycles n).setStackPair q v = (s.setStackPair q v).addCycles n := by cases q <;> rfl

@[simp] theorem memWrite_addCycles (a : Word) (b : Byte) :
    memWrite (s.addCycles n) a b = (memWrite s a b).addCycles n := by
  unfold memWrite
  rw [(sameBus_addCycles s n).busTarget a]
  cases busTarget s a with
  | cartRam =>
    show mbcWriteRam _ a b = (mbcWriteRam s a b).addCycles n
    have htarget : mbcRamTarget (s.addCycles n).cart (s.addCycles n).mbc = mbcRamTarget s.cart s.mbc := rfl
    unfold mbcWriteRam
    rw [htarget]
    cases mbcRamTarget s.cart s.mbc <;> rfl
  | romFixed | romSwitchable | cell | nothing | ifReg | vbk | svbk | ieReg => rfl

@[simp] theorem memWrite16_addCycles (a v : Word) :
    memWrite16 (s.addCycles n) a v = (memWrite16 s a v).addCycles n := by simp [memWrite16]

@[simp] theorem State.setOperand_addCycles (o : Operand) (v : Byte) :
    (s.addCycles n).setOperand o v = (s.setOperand o v).addCycles n := by
  cases o <;> simp [State.setOperand]

theorem State.pushed_addCycles (v : Word) : (s.addCycles n).pushed v = (s.pushed v).addCycles n := by
  have pushed_eq (u : State) : u.pushed v = memWrite
      ((memWrite (u.setPair .sp (u.sp - 1#16)) (u.sp - 1#16) (hi8 v)).setPair .sp (u.sp - 2#16))
      (u.sp - 2#16) (lo8 v) := rfl
  simp only [pushed_eq, State.addCycles_sp, State.setPair_addCycles, memWrite_addCycles]

end

/-! ### The stack and interrupts -/

theorem push16_eq_pushed {s : State} (h : 2 ≤ s.sp.toNat) (v : Word) : push16 v s = .ok (s.pushed v) := push16_ok h v

theorem push16_addCycles (v : Word) (s : State) (n : Nat) :
    push16 v (s.addCycles n) = (push16 v s).map (State.addCycles n) := by
  by_cases h : s.sp.toNat < 2
  · rw [push16_fault h, push16_fault (s := s.addCycles n) h]
    rfl
  · rw [push16_eq_pushed (Nat.le_of_not_lt h), push16_eq_pushed (s := s.addCycles n) (Nat.le_of_not_lt h),
      State.pushed_addCycles]
    rfl

theorem pop16_addCycles (s : State) (n : Nat) :
    pop16 (s.addCycles n) = (pop16 s).map (Prod.map id (State.addCycles n)) := by
  by_cases h : 0xFFFD < s.sp.toNat
  · rw [pop16_fault h, pop16_fault (s := s.addCycles n) h]
    rfl
  · rw [pop16_ok (Nat.le_of_not_lt h), pop16_ok (s := s.addCycles n) (Nat.le_of_not_lt h), memRead16_addCycles]
    rfl

/-- An outcome of `f` is the same from a shifted count, shifted. -/
def Shifts (f : State → Result) : Prop := ∀ s n, f (s.addCycles n) = mapNext (State.addCycles n) (f s)

/-- Adding an instruction's cost first makes no difference. -/
theorem Shifts.afterRetire {f : State → Result} (h : Shifts f) (len : Word) (cost : Nat) :
    Shifts (fun s => f (s.retire len cost)) :=
  fun s n => (congrArg f (State.retire_addCycles s n len cost)).trans (h _ n)

theorem callTo_shifts (target : Word) : Shifts (callTo target) := by
  intro s n
  unfold callTo
  rw [State.addCycles_pc, push16_addCycles]
  cases push16 s.pc s <;> rfl

theorem retFrom_shifts : Shifts retFrom := by
  intro s n
  unfold retFrom
  rw [pop16_addCycles]
  cases pop16 s <;> rfl

theorem returnFromInterrupt_shifts : Shifts returnFromInterrupt := by
  intro s n
  unfold returnFromInterrupt
  rw [pop16_addCycles]
  cases pop16 s <;> rfl

theorem pushPair_shifts (q : StackPair) : Shifts (pushPair q) := by
  intro s n
  unfold pushPair
  rw [State.getStackPair_addCycles, State.retire_addCycles, push16_addCycles]
  cases push16 (s.getStackPair q) (s.retire 1 16) <;> rfl

theorem popPair_shifts (q : StackPair) : Shifts (popPair q) := by
  intro s n
  unfold popPair
  rw [State.retire_addCycles, pop16_addCycles]
  cases pop16 (s.retire 1 12) with
  | error f => rfl
  | ok p => exact congrArg Host.Outcome.next (State.setStackPair_addCycles _ n q _)

/-- The machine with the interrupt it takes acknowledged and the gate closed (spec 60 R420). -/
def State.acknowledged (s : State) : State :=
  { s with ifReg := s.ifReg &&& ~~~(1#5 <<< lowestSource (pending s)), ime := false, eiPending := false }

/-- A dispatch with room on the stack: acknowledge, push pc, 20 cycles, jump to the vector. -/
theorem dispatchInterrupt_ok {s : State} (h : 2 ≤ s.sp.toNat) : dispatchInterrupt s =
    .next (((s.acknowledged.pushed s.pc).retire 0#16 20).jump (vectorOf (lowestSource (pending s)))) := by
  have hpush := push16_eq_pushed (s := s.acknowledged) h s.pc
  unfold dispatchInterrupt
  dsimp only
  split
  · rename_i hu
    cases hu.symm.trans hpush
    rfl
  · rename_i hf
    exact nomatch hf.symm.trans hpush

theorem dispatchInterrupt_shifts : Shifts dispatchInterrupt := by
  intro s n
  by_cases h : s.sp.toNat < 2
  · rw [dispatchInterrupt_fault h, dispatchInterrupt_fault (s := s.addCycles n) h]
    rfl
  · have hack : (s.addCycles n).acknowledged = s.acknowledged.addCycles n := rfl
    rw [dispatchInterrupt_ok (Nat.le_of_not_lt h), dispatchInterrupt_ok (s := s.addCycles n) (Nat.le_of_not_lt h), hack,
      State.pushed_addCycles, State.retire_addCycles]
    rfl

/-! ### Instructions -/

theorem aluOperand_shifts (op : AluOp) (o : Operand) : Shifts (aluOperand op o) := fun s n => by simp [aluOperand]

theorem aluImmediate_shifts (op : AluOp) (v : Byte) : Shifts (aluImmediate op v) := fun s n => by simp [aluImmediate]

theorem incOperand_shifts (o : Operand) : Shifts (incOperand o) := fun s n => by simp [incOperand]

theorem decOperand_shifts (o : Operand) : Shifts (decOperand o) := fun s n => by simp [decOperand]

theorem addHl_shifts (p : Pair) : Shifts (addHl p) := fun s n => by simp [addHl]

theorem rotAccumulator_shifts (op : RotOp) : Shifts (rotAccumulator op) := fun s n => by simp [rotAccumulator]

theorem rotOperand_shifts (op : RotOp) (o : Operand) : Shifts (rotOperand op o) := fun s n => by simp [rotOperand]

theorem bitOperand_shifts (b : Fin 8) (o : Operand) : Shifts (bitOperand b o) := fun s n => by simp [bitOperand]

theorem resOperand_shifts (b : Fin 8) (o : Operand) : Shifts (resOperand b o) := fun s n => by simp [resOperand]

theorem setBitOperand_shifts (b : Fin 8) (o : Operand) : Shifts (setBitOperand b o) := fun s n => by
  simp [setBitOperand]

theorem ldRegReg_shifts (dst src : Reg8) : Shifts (ldRegReg dst src) := fun s n => by simp [ldRegReg]

theorem ldRegImm_shifts (dst : Reg8) (v : Byte) : Shifts (ldRegImm dst v) := fun s n => by simp [ldRegImm]

theorem ldRegMem_shifts (dst : Reg8) : Shifts (ldRegMem dst) := fun s n => by simp [ldRegMem]

theorem ldMemReg_shifts (r : Reg8) : Shifts (ldMemReg r) := fun s n => by simp [ldMemReg]

theorem ldAFrom_shifts (addr len : Word) (cost : Nat) : Shifts (ldAFrom addr len cost) := fun s n => by simp [ldAFrom]

theorem ldATo_shifts (addr len : Word) (cost : Nat) : Shifts (ldATo addr len cost) := fun s n => by simp [ldATo]

theorem ldAFromStep_shifts (k : Word) : Shifts (ldAFromStep k) := fun s n => by simp [ldAFromStep]

theorem ldAToStep_shifts (k : Word) : Shifts (ldAToStep k) := fun s n => by simp [ldAToStep]

theorem jrIf_shifts (cc : Cond) (e : Byte) : Shifts (jrIf cc e) := fun s n => by simp [jrIf]

theorem jpIf_shifts (cc : Cond) (nn : Word) : Shifts (jpIf cc nn) := fun s n => by simp [jpIf]

theorem callIf_shifts (cc : Cond) (nn : Word) : Shifts (callIf cc nn) := fun s n => by
  simp [callIf, callTo_shifts nn (s.retire 3#16 24) n]

theorem retIf_shifts (cc : Cond) : Shifts (retIf cc) := fun s n => by simp [retIf, retFrom_shifts (s.retire 1#16 20) n]

theorem execLd_mHL_n_shifts (v : Byte) : Shifts (execLd_mHL_n v) := fun s n => by simp [execLd_mHL_n]

theorem execLd_mnn_SP_shifts (nn : Word) : Shifts (execLd_mnn_SP nn) := fun s n => by simp [execLd_mnn_SP]

theorem execLd_SP_HL_shifts : Shifts execLd_SP_HL := fun s n => by simp [execLd_SP_HL]

theorem execLd_HL_SPe_shifts (e : Byte) : Shifts (execLd_HL_SPe e) := fun s n => by simp [execLd_HL_SPe]

theorem execAdd_SP_e_shifts (e : Byte) : Shifts (execAdd_SP_e e) := fun s n => by simp [execAdd_SP_e]

theorem execDaa_shifts : Shifts execDaa := fun s n => by simp [execDaa]

theorem execCpl_shifts : Shifts execCpl := fun s n => by simp [execCpl]

theorem execScf_shifts : Shifts execScf := fun s n => by simp [execScf]

theorem execCcf_shifts : Shifts execCcf := fun s n => by simp [execCcf]

theorem execJr_e_shifts (e : Byte) : Shifts (execJr_e e) := fun s n => by simp [execJr_e]

theorem execJp_nn_shifts (nn : Word) : Shifts (execJp_nn nn) := fun s n => by simp [execJp_nn]

theorem execJp_HL_shifts : Shifts execJp_HL := fun s n => by simp [execJp_HL]

theorem execNop_shifts : Shifts execNop := fun s n => by simp [execNop]

theorem execHalt_shifts : Shifts execHalt := fun s n => by
  rw [execHalt, State.retire_addCycles]
  rfl

theorem execStop_shifts (v : Byte) : Shifts (execStop v) := fun s n => by
  rw [execStop, State.retire_addCycles]
  rfl

theorem execDi_shifts : Shifts execDi := fun s n => by
  rw [execDi, State.retire_addCycles]
  rfl

theorem execEi_shifts : Shifts execEi := fun s n => by
  unfold execEi
  rw [State.retire_addCycles, mapNext_ite]
  rfl

theorem exec_ofLd_shifts (dst src : Operand) : Shifts (exec (ofLd dst src)) := by
  intro s n
  cases dst with
  | reg dst =>
    cases src with
    | reg src => simpa only [exec_ofLd_reg_reg] using ldRegReg_shifts dst src s n
    | mHL => simpa only [exec_ofLd_reg_mHL] using ldRegMem_shifts dst s n
  | mHL =>
    cases src with
    | reg src => simpa only [exec_ofLd_mHL_reg] using ldMemReg_shifts src s n
    | mHL => exact execHalt_shifts s n

/-- No instruction looks at the cycle count (spec 10 R30). -/
theorem exec_shifts (i : Instr) : Shifts (exec i) := by
  intro s n
  cases row_of i with
  | ld dst src => exact exec_ofLd_shifts dst src s n
  | ldImm dst v =>
    cases dst with
    | reg dst => simpa only [exec_ofLdImm_reg] using ldRegImm_shifts dst v s n
    | mHL => exact execLd_mHL_n_shifts v s n
  | inc o => simpa only [exec_ofInc] using incOperand_shifts o s n
  | dec o => simpa only [exec_ofDec] using decOperand_shifts o s n
  | alu op o => simpa only [exec_ofAlu] using aluOperand_shifts op o s n
  | aluImm op v => simpa only [exec_ofAluImm] using aluImmediate_shifts op v s n
  | ldPair p nn => simp
  | addHl p => simpa only [exec_ofAddHl] using addHl_shifts p s n
  | incPair p => simp
  | decPair p => simp
  | push q => simpa only [exec_ofPush] using pushPair_shifts q s n
  | pop q => simpa only [exec_ofPop] using popPair_shifts q s n
  | jrIf cc e => simpa only [exec_ofJr] using jrIf_shifts cc e s n
  | jpIf cc nn => simpa only [exec_ofJp] using jpIf_shifts cc nn s n
  | callIf cc nn => simpa only [exec_ofCall] using callIf_shifts cc nn s n
  | retIf cc => simpa only [exec_ofRet] using retIf_shifts cc s n
  | rst t => simpa only [exec_ofRst] using (callTo_shifts _).afterRetire 1 16 s n
  | rot op o => simpa only [exec_ofRot] using rotOperand_shifts op o s n
  | bit b o => simpa only [exec_ofBit] using bitOperand_shifts b o s n
  | res b o => simpa only [exec_ofRes] using resOperand_shifts b o s n
  | set b o => simpa only [exec_ofSet] using setBitOperand_shifts b o s n
  | ld_mBC_A | ld_mDE_A | ldh_mn_A | ldh_mC_A | ld_mnn_A => exact ldATo_shifts _ _ _ s n
  | ld_A_mBC | ld_A_mDE | ldh_A_mn | ldh_A_mC | ld_A_mnn => exact ldAFrom_shifts _ _ _ s n
  | ld_mHLinc_A | ld_mHLdec_A => exact ldAToStep_shifts _ s n
  | ld_A_mHLinc | ld_A_mHLdec => exact ldAFromStep_shifts _ s n
  | ld_mnn_SP nn => exact execLd_mnn_SP_shifts nn s n
  | ld_SP_HL => exact execLd_SP_HL_shifts s n
  | ld_HL_SPe e => exact execLd_HL_SPe_shifts e s n
  | add_SP_e e => exact execAdd_SP_e_shifts e s n
  | rlca | rrca | rla | rra => exact rotAccumulator_shifts _ s n
  | daa => exact execDaa_shifts s n
  | cpl => exact execCpl_shifts s n
  | scf => exact execScf_shifts s n
  | ccf => exact execCcf_shifts s n
  | jr_e e => exact execJr_e_shifts e s n
  | jp_nn nn => exact execJp_nn_shifts nn s n
  | jp_HL => exact execJp_HL_shifts s n
  | call_nn nn => exact (callTo_shifts nn).afterRetire 3 24 s n
  | ret => exact retFrom_shifts.afterRetire 1 16 s n
  | reti => exact returnFromInterrupt_shifts.afterRetire 1 16 s n
  | nop => exact execNop_shifts s n
  | stop v => exact execStop_shifts v s n
  | di => exact execDi_shifts s n
  | ei => exact execEi_shifts s n
  | unassigned i h =>
    obtain ⟨op, hop, henc, hx⟩ := exec_unassigned h s
    obtain ⟨op', -, henc', hx'⟩ := exec_unassigned h (s.addCycles n)
    cases henc.symm.trans henc'
    rw [hx, hx']
    rfl

/-! ### Steps -/

@[simp] theorem wakeIfPending_addCycles (s : State) (n : Nat) :
    wakeIfPending (s.addCycles n) = (wakeIfPending s).addCycles n := by
  unfold wakeIfPending
  rw [pending_addCycles, apply_ite (State.addCycles n)]
  rfl

@[simp] theorem finishStep_addCycles (i : Instr) (s : State) (n : Nat) :
    finishStep i (s.addCycles n) = (finishStep i s).addCycles n := by
  unfold finishStep
  rw [apply_ite (State.addCycles n)]
  rfl

theorem idleStep_addCycles (s : State) (n : Nat) : idleStep (s.addCycles n) = (idleStep s).addCycles n := by
  simp only [idleStep, State.addCycles, Nat.add_right_comm]

theorem step_shifts : Shifts step := by
  intro s n
  have hfault : (s.addCycles n).fault = s.fault := rfl
  have hstopped : (s.addCycles n).stopped = s.stopped := rfl
  have hime (t : State) : (t.addCycles n).ime = t.ime := rfl
  have hhalted (t : State) : (t.addCycles n).halted = t.halted := rfl
  unfold step
  rw [hfault]
  cases s.fault with
  | some r => rfl
  | none =>
    simp only [hstopped, hime, hhalted, wakeIfPending_addCycles, pending_addCycles, fetchInstr_addCycles,
      idleStep_addCycles, dispatchInterrupt_shifts (wakeIfPending s) n,
      exec_shifts (fetchInstr (wakeIfPending s)) (wakeIfPending s) n, mapNext_ite, mapNext_next, mapNext_fault]
    cases exec (fetchInstr (wakeIfPending s)) (wakeIfPending s) with
    | next t => simp only [mapNext_next, finishStep_addCycles]
    | fault r => rfl
    | refused r => rfl

/-- Settles O15: the shift goes through the step. -/
theorem cyclesAreNeverRead : Obligations.CyclesAreNeverRead := by
  intro s n
  refine (step_shifts s n).trans ?_
  cases step s <;> rfl

end Sys2Proof.Machine
end

section
/-!
PROOF. O2, O3, O1: the encoding of 30 R160 to R172 in both directions. A row's encoding decodes to the row and no more;
and the row three bytes decode to encodes to the first of them again, as many as its first byte says.
-/
namespace Sys2Proof.Machine

/-! ### Decoding an encoding -/

theorem encode_ne_nil (i : Instr) : encode i ≠ [] := by
  unfold encode
  cases i <;> exact List.cons_ne_nil _ _

/-- The head of a nonempty list of bytes, with zeros where the list ends before the third byte. -/
theorem decode_of_ne_nil {bytes : List Byte} (h : bytes ≠ []) : decode bytes =
    (let i := decodeBytes (bytes.getD 0 0#8) (bytes.getD 1 0#8) (bytes.getD 2 0#8)
     if i.length ≤ bytes.length then .ok (i, bytes.drop i.length) else .error .truncated) := by
  cases bytes with
  | nil => exact absurd rfl h
  | cons b0 rest => rfl

theorem getD_append_eq_getD_getD (l l' : List Byte) (k : Nat) (d : Byte) :
    (l ++ l').getD k d = l.getD k (l'.getD (k - l.length) d) := by
  simp only [List.getD_eq_getElem?_getD]
  by_cases hk : k < l.length
  · rw [List.getElem?_append_left hk, List.getElem?_eq_getElem hk, Option.getD_some, Option.getD_some]
  · have hk' := Nat.le_of_not_lt hk
    rw [List.getElem?_append_right hk', List.getElem?_eq_none hk', Option.getD_none]

/-- A row's encoding decodes to the row and no more. -/
theorem decodesTo_of_encode {i : Instr} {bytes : List Byte} (h : encode i = bytes) : decodesTo i bytes := by
  intro rest
  subst h
  rw [decode_of_ne_nil (List.append_ne_nil_of_left_ne_nil (encode_ne_nil i) rest)]
  simp only [getD_append_eq_getD_getD, decodeBytes_encode_getD]
  simp [Instr.length]

theorem encode_injective {i j : Instr} (h : encode i = encode j) : i = j := by
  rw [← decodeBytes_encode i, h, decodeBytes_encode]

/-! ### The encodings of the families -/

theorem encode_ofLd (dst src : Operand) :
    encode (ofLd dst src) = [BitVec.ofNat 8 (0x40 + 8 * dst.code + src.code)] := by
  rcases dst with r | _ <;> rcases src with r' | _
  · cases r <;> cases r' <;> rfl
  · cases r <;> rfl
  · cases r' <;> rfl
  · rfl

theorem encode_ofAlu (op : AluOp) (s : Operand) :
    encode (ofAlu op s) = [BitVec.ofNat 8 (0x80 + 8 * op.code + s.code)] := by
  rcases s with r | _
  · cases op <;> cases r <;> rfl
  · cases op <;> rfl

theorem encode_ofRot (op : RotOp) (s : Operand) :
    encode (ofRot op s) = [0xCB#8, BitVec.ofNat 8 (8 * op.code + s.code)] := by
  rcases s with r | _
  · cases op <;> cases r <;> rfl
  · cases op <;> rfl

theorem encode_ofBit (b : Fin 8) (s : Operand) :
    encode (ofBit b s) = [0xCB#8, BitVec.ofNat 8 (0x40 + 8 * b.val + s.code)] := by
  revert b
  rcases s with r | _
  · cases r <;> decide
  · decide

theorem encode_ofRes (b : Fin 8) (s : Operand) :
    encode (ofRes b s) = [0xCB#8, BitVec.ofNat 8 (0x80 + 8 * b.val + s.code)] := by
  revert b
  rcases s with r | _
  · cases r <;> decide
  · decide

theorem encode_ofSet (b : Fin 8) (s : Operand) :
    encode (ofSet b s) = [0xCB#8, BitVec.ofNat 8 (0xC0 + 8 * b.val + s.code)] := by
  revert b
  rcases s with r | _
  · cases r <;> decide
  · decide

theorem operandOf_code (f : Fin 8) : (operandOf f).code = f.val := by revert f; decide
theorem aluOf_code (o : Fin 8) : (aluOf o).code = o.val := by revert o; decide
theorem rotOf_code (y : Fin 8) : (rotOf y).code = y.val := by revert y; decide

/-! ### A byte and its fields -/

/-- The byte with the bit fields `x`, `y` and `z` (30 R161). -/
def ofFields (x : Fin 4) (y z : Fin 8) : Byte := BitVec.ofNat 8 (64 * x.val + 8 * y.val + z.val)

theorem ofFields_fields (op : Byte) : ofFields (fieldX op) (fieldY op) (fieldZ op) = op := by
  apply BitVec.eq_of_toNat_eq
  have := op.isLt
  simp only [ofFields, fieldX, fieldY, fieldZ, BitVec.toNat_ofNat, Fin.val_ofNat]
  omega

theorem fieldX_ofFields (x : Fin 4) (y z : Fin 8) : fieldX (ofFields x y z) = x := by
  apply Fin.ext
  simp only [ofFields, fieldX, BitVec.toNat_ofNat, Fin.val_ofNat]
  omega

theorem fieldY_ofFields (x : Fin 4) (y z : Fin 8) : fieldY (ofFields x y z) = y := by
  apply Fin.ext
  simp only [ofFields, fieldY, BitVec.toNat_ofNat, Fin.val_ofNat]
  omega

theorem fieldZ_ofFields (x : Fin 4) (y z : Fin 8) : fieldZ (ofFields x y z) = z := by
  apply Fin.ext
  simp only [ofFields, fieldZ, BitVec.toNat_ofNat, Fin.val_ofNat]
  omega

/-! ### Encoding what was decoded -/

theorem encode_decodeCb (op : Byte) : encode (decodeCb op) = [0xCB#8, op] := by
  rw [← ofFields_fields op]
  generalize fieldX op = x, fieldY op = y, fieldZ op = z
  simp only [decodeCb, fieldX_ofFields, fieldY_ofFields, fieldZ_ofFields]
  match x with
  | 0 => simp [encode_ofRot, rotOf_code, operandOf_code, ofFields]
  | 1 => rw [encode_ofBit, operandOf_code]; rfl
  | 2 => rw [encode_ofRes, operandOf_code]; rfl
  | 3 => rw [encode_ofSet, operandOf_code]; rfl

/-- What the rows with first byte `op` are made of (30 R166): `op` alone, `op` and the byte read after it, or `op` and
the word read after it. -/
inductive Layout (op : Byte) (row : Byte → Word → Instr) : Prop where
  | bare (h : ∀ n nn, encode (row n nn) = [op])
  | byte (h : ∀ n nn, encode (row n nn) = [op, n])
  | word (h : ∀ n nn, encode (row n nn) = withWord op nn)

theorem decodeX0_layout (y z : Fin 8) : Layout (ofFields 0 y z) (decodeX0 (ofFields 0 y z)) :=
  match z, y with
  | 0, 0 => .bare fun _ _ => rfl
  | 0, 1 => .word fun _ _ => rfl
  | 0, 2 | 0, 3 | 0, 4 | 0, 5 | 0, 6 | 0, 7 => .byte fun _ _ => rfl
  | 1, 0 | 1, 2 | 1, 4 | 1, 6 => .word fun _ _ => rfl
  | 1, 1 | 1, 3 | 1, 5 | 1, 7 => .bare fun _ _ => rfl
  | 2, y | 3, y | 4, y | 5, y | 7, y =>
    match y with
    | 0 | 1 | 2 | 3 | 4 | 5 | 6 | 7 => .bare fun _ _ => rfl
  | 6, y =>
    match y with
    | 0 | 1 | 2 | 3 | 4 | 5 | 6 | 7 => .byte fun _ _ => rfl

theorem decodeX3_layout (y z : Fin 8) : Layout (ofFields 3 y z) (decodeX3 (ofFields 3 y z)) :=
  match z, y with
  | 0, 0 | 0, 1 | 0, 2 | 0, 3 => .bare fun _ _ => rfl
  | 0, 4 | 0, 5 | 0, 6 | 0, 7 => .byte fun _ _ => rfl
  | 2, 0 | 2, 1 | 2, 2 | 2, 3 | 2, 5 | 2, 7 => .word fun _ _ => rfl
  | 2, 4 | 2, 6 => .bare fun _ _ => rfl
  | 3, 0 => .word fun _ _ => rfl
  | 3, 1 => .byte fun n _ => encode_decodeCb n
  | 3, 2 | 3, 3 | 3, 4 | 3, 5 | 3, 6 | 3, 7 => .bare fun _ _ => rfl
  | 4, 0 | 4, 1 | 4, 2 | 4, 3 => .word fun _ _ => rfl
  | 4, 4 | 4, 5 | 4, 6 | 4, 7 => .bare fun _ _ => rfl
  | 5, 1 => .word fun _ _ => rfl
  | 5, 0 | 5, 2 | 5, 3 | 5, 4 | 5, 5 | 5, 6 | 5, 7 => .bare fun _ _ => rfl
  | 1, y | 7, y =>
    match y with
    | 0 | 1 | 2 | 3 | 4 | 5 | 6 | 7 => .bare fun _ _ => rfl
  | 6, y =>
    match y with
    | 0 | 1 | 2 | 3 | 4 | 5 | 6 | 7 => .byte fun _ _ => rfl

/-- The first byte says how many of the three bytes the row takes, and its encoding is those. -/
theorem Layout.encode_eq_take {op : Byte} {row : Byte → Word → Instr} (h : Layout op row) :
    ∃ n : Nat, 1 ≤ n ∧ n ≤ 3 ∧ ∀ b1 b2, encode (row b1 (word16 b2 b1)) = [op, b1, b2].take n := by
  cases h with
  | bare h => exact ⟨1, by decide, by decide, fun b1 b2 => h _ _⟩
  | byte h => exact ⟨2, by decide, by decide, fun b1 b2 => h _ _⟩
  | word h => exact ⟨3, by decide, by decide, fun b1 b2 => by simp [h, withWord]⟩

/-- The same for all first bytes, quarter by quarter (30 R167). -/
theorem encode_decodeBytes (op : Byte) : ∃ n : Nat, 1 ≤ n ∧ n ≤ 3 ∧
    ∀ b1 b2, encode (decodeBytes op b1 b2) = [op, b1, b2].take n := by
  rw [← ofFields_fields op]
  generalize fieldX op = x, fieldY op = y, fieldZ op = z
  simp only [decodeBytes, fieldX_ofFields, fieldY_ofFields, fieldZ_ofFields]
  match x with
  | 0 => exact (decodeX0_layout y z).encode_eq_take
  | 1 => exact ⟨1, by decide, by decide, fun _ _ => by rw [encode_ofLd, operandOf_code, operandOf_code]; rfl⟩
  | 2 => exact ⟨1, by decide, by decide, fun _ _ => by rw [encode_ofAlu, aluOf_code, operandOf_code]; rfl⟩
  | 3 => exact (decodeX3_layout y z).encode_eq_take

/-! ### The statements -/

/-- Settles O2: `decodeBytes_encode_getD`, with what follows the encoding in the places it leaves free. -/
theorem decodeOfEncode : Obligations.DecodeOfEncode := fun _ rest _ => decodesTo_of_encode rfl rest

/-- Settles O3: the encoding of what was decoded, and rows with the same encoding are the same row. -/
theorem encodeOfDecode : Obligations.EncodeOfDecode := by
  intro b0 b1 b2
  obtain ⟨n, hpos, hle, henc⟩ := encode_decodeBytes b0
  refine ⟨n, hpos, hle, henc b1 b2, fun c1 c2 => ?_, fun hn c1 c2 => ?_, fun hn c2 => ?_⟩
  · rw [Instr.length, henc, List.length_take]
    exact Nat.min_eq_left hle
  · subst hn
    exact encode_injective ((henc c1 c2).trans (henc b1 b2).symm)
  · have htake (b : Byte) : [b0, b1, b].take n = [b0, b1].take n := List.take_append_of_le_length (l₁ := [b0, b1]) hn
    apply encode_injective
    rw [henc, henc, htake, htake]

/-- Settles O1: each list of bytes is the encoding of the instruction the spec names. -/
theorem decodesSpecExamples : Obligations.DecodesSpecExamples := by
  refine ⟨?_, ?_, ?_, ?_, ?_, ?_, ?_, ?_, ?_, ?_, ?_, ?_⟩ <;> exact decodesTo_of_encode rfl

end Sys2Proof.Machine
end

section
/-!
PROOF. O34 to O37: the 8-bit loads of 40 R200 to R218. What each shared form of their meanings answers, as a full next
state, and each statement from those.
-/
namespace Sys2Proof.Machine

/-! ### LD r,r' and LD r,n -/

theorem encode_ofLdImm (d : Operand) (n : Byte) : encode (ofLdImm d n) = [BitVec.ofNat 8 (0x06 + 8 * d.code), n] := by
  rcases d with r | _
  · cases r <;> rfl
  · rfl

theorem encode_ofLd_mHL (r : Reg8) : encode (ofLd (.reg r) .mHL) = [BitVec.ofNat 8 (0x46 + 8 * r.code)] := by
  rw [encode_ofLd]
  exact congrArg (fun k => [BitVec.ofNat 8 k]) (Nat.add_right_comm 0x40 (8 * r.code) 6)

/-- A register written with its own value stays as it was. -/
@[simp] theorem State.setReg_getReg (s : State) (r : Reg8) : s.setReg r (s.getReg r) = s := by cases r <;> rfl

/-- `LD r,r` is `NOP` (spec 40 R200). -/
theorem ldRegReg_self (r : Reg8) (s : State) : ldRegReg r r s = exec .nop s := by
  rw [ldRegReg, ← State.getReg_retire s 1 4 r, State.setReg_getReg]
  rfl

/-! ### A to and from an address -/

theorem ldAFrom_eq (addr len : Word) (cost : Nat) (s : State) : ldAFrom addr len cost s =
    .next { s with pc := s.pc + len, cycles := s.cycles + cost, a := memRead s addr } := rfl

theorem ldATo_eq (addr len : Word) (cost : Nat) (s : State) : ldATo addr len cost s =
    .next (memWrite { s with pc := s.pc + len, cycles := s.cycles + cost } addr s.a) := rfl

/-- The word sum of a high-page address does not wrap (spec 40 R211). -/
theorem ioAddress_eq (n : Byte) : ioAddress n = BitVec.ofNat 16 (0xFF00 + n.toNat) := by
  rw [ioAddress, BitVec.ofNat_add, BitVec.ofNat_toNat]

/-! ### HL moved -/

/-- HL set to a word moved by `k`, modulo 2^16, byte by byte. -/
theorem State.setHl_add_ofNat (s : State) (w : Word) (k : Nat) : s.setHl (w + BitVec.ofNat 16 k) = { s with
    h := BitVec.ofNat 8 ((w.toNat + k) % 65536 / 256), l := BitVec.ofNat 8 ((w.toNat + k) % 65536 % 256) } := by
  have hw : w + BitVec.ofNat 16 k = BitVec.ofNat 16 ((w.toNat + k) % 65536) := by
    rw [ofNat_mod_65536, BitVec.ofNat_add, BitVec.ofNat_toNat, BitVec.setWidth_eq]
  rw [State.setHl, hw, hi8_ofNat, lo8_ofNat, ofNat_mod_256, Nat.mod_mod]

theorem ldAFromStep_eq (k : Nat) (s : State) : ldAFromStep (BitVec.ofNat 16 k) s = .next { s with
    pc := s.pc + 1#16, cycles := s.cycles + 8, a := memRead s s.hl
    h := BitVec.ofNat 8 ((s.hl.toNat + k) % 65536 / 256)
    l := BitVec.ofNat 8 ((s.hl.toNat + k) % 65536 % 256) } := by
  rw [ldAFromStep, State.setHl_add_ofNat]
  rfl

theorem ldAToStep_eq (k : Nat) (s : State) : ldAToStep (BitVec.ofNat 16 k) s = .next
    { memWrite { s with pc := s.pc + 1#16, cycles := s.cycles + 8 } s.hl s.a with
      h := BitVec.ofNat 8 ((s.hl.toNat + k) % 65536 / 256)
      l := BitVec.ofNat 8 ((s.hl.toNat + k) % 65536 % 256) } := by
  rw [ldAToStep, State.setHl_add_ofNat]
  rfl

/-! ### The statements -/

/-- Settles O34: the encoding and the meaning of each family of rows. -/
theorem loadRegister : Obligations.LoadRegister :=
  ⟨fun r r' s => ⟨decodesTo_of_encode (encode_ofLd (.reg r) (.reg r')), exec_ofLd_reg_reg r r' s⟩,
    fun r n s => ⟨decodesTo_of_encode (encode_ofLdImm (.reg r) n), exec_ofLdImm_reg r n s⟩,
    fun r s => ⟨decodesTo_of_encode (encode_ofLd_mHL r), exec_ofLd_reg_mHL r s⟩,
    fun r s => ⟨decodesTo_of_encode (encode_ofLd .mHL (.reg r)), exec_ofLd_mHL_reg r s⟩,
    fun n s => ⟨decodesTo_of_encode (encode_ofLdImm .mHL n), exec_ofLdImm_mHL n s⟩,
    fun r s => (exec_ofLd_reg_reg r r s).trans (ldRegReg_self r s)⟩

/-- Settles O35: each row is a load or a store of A at its address. -/
theorem loadAccumulatorPairs : Obligations.LoadAccumulatorPairs :=
  ⟨fun s => ⟨decodesTo_of_encode rfl, ldAFrom_eq s.bc 1 8 s⟩,
    fun s => ⟨decodesTo_of_encode rfl, ldAFrom_eq s.de 1 8 s⟩,
    fun s => ⟨decodesTo_of_encode rfl, ldATo_eq s.bc 1 8 s⟩,
    fun s => ⟨decodesTo_of_encode rfl, ldATo_eq s.de 1 8 s⟩,
    fun nn s => ⟨decodesTo_of_encode rfl, ldAFrom_eq nn 3 16 s⟩,
    fun nn s => ⟨decodesTo_of_encode rfl, ldATo_eq nn 3 16 s⟩⟩

/-- Settles O36: a load or a store of A at `ioAddress`, which is the sum of the statement. -/
theorem loadHighPage : Obligations.LoadHighPage := by
  unfold Obligations.LoadHighPage
  simp only [← ioAddress_eq]
  exact ⟨fun s => ⟨decodesTo_of_encode rfl, ldAFrom_eq (ioAddress s.c) 1 8 s⟩,
    fun s => ⟨decodesTo_of_encode rfl, ldATo_eq (ioAddress s.c) 1 8 s⟩,
    fun n s => ⟨decodesTo_of_encode rfl, ldAFrom_eq (ioAddress n) 2 12 s⟩,
    fun n s => ⟨decodesTo_of_encode rfl, ldATo_eq (ioAddress n) 2 12 s⟩⟩

/-- Settles O37: the access at the old HL, then HL moved; moving by -1 is moving by 65535. -/
theorem loadAndStepHl : Obligations.LoadAndStepHl :=
  ⟨fun s => ⟨decodesTo_of_encode rfl, ldAToStep_eq 1 s⟩,
    fun s => ⟨decodesTo_of_encode rfl, ldAFromStep_eq 1 s⟩,
    fun s => ⟨decodesTo_of_encode rfl, ldAToStep_eq 65535 s⟩,
    fun s => ⟨decodesTo_of_encode rfl, ldAFromStep_eq 65535 s⟩⟩

end Sys2Proof.Machine
end

section
/-!
PROOF. O38: the 16-bit loads of 41 R220 to R223. The sum `sp + e` with its flags is stated once over the natural
numbers; the other rows are the model's own updates.
-/
namespace Sys2Proof.Machine

/-! ### sp plus a signed byte, over the natural numbers -/

theorem lowNibble_eq_mod (b : Byte) : lowNibble b = b.toNat % 16 := Nat.and_two_pow_sub_one_eq_mod b.toNat 4

/-- Modulo 2^16 a negative byte adds 65280 more than its unsigned value (spec 00 R7). -/
theorem sext16_eq_ofNat (b : Byte) :
    sext16 b = BitVec.ofNat 16 (if b.toNat < 128 then b.toNat else b.toNat + 65280) := by
  apply BitVec.eq_of_toNat_eq
  have hmsb : b.msb = decide (128 ≤ b.toNat) := BitVec.msb_eq_decide b
  rw [sext16, BitVec.toNat_signExtend, hmsb, BitVec.toNat_setWidth, BitVec.toNat_ofNat]
  by_cases hpos : b.toNat < 128
  · simp [hpos]
  · have hneg : 128 ≤ b.toNat := Nat.le_of_not_lt hpos
    simp only [hneg, hpos, decide_true, if_true, if_false]
    omega

/-- `sp + e`; H and C are from the unsigned low bytes, whatever the sign of `e` (spec 41 R223, 43 R263). -/
theorem spPlusResult_eq (sp : Word) (e : Byte) : spPlusResult sp e =
    (BitVec.ofNat 16 (sp.toNat + (if e.toNat < 128 then e.toNat else e.toNat + 65280)),
      { z := false, n := false, h := decide (sp.toNat % 16 + e.toNat % 16 > 15),
        c := decide (sp.toNat % 256 + e.toNat > 255) }) := by
  have hnibble : (sp &&& 0x000F#16).toNat = sp.toNat % 16 := Nat.and_two_pow_sub_one_eq_mod sp.toNat 4
  have hbyte : (sp &&& 0x00FF#16).toNat = sp.toNat % 256 := Nat.and_two_pow_sub_one_eq_mod sp.toNat 8
  rw [spPlusResult, sext16_eq_ofNat, lowNibble_eq_mod, hnibble, hbyte, BitVec.ofNat_add, BitVec.ofNat_toNat,
    BitVec.setWidth_eq]

/-! ### LD rr,nn and LD HL,SP+e -/

theorem encode_ofLdPair (p : Pair) (nn : Word) :
    encode (ofLdPair p nn) = [BitVec.ofNat 8 (0x01 + 16 * p.code), lo8 nn, hi8 nn] := by cases p <;> rfl

theorem exec_ld_HL_SPe (e : Byte) (s : State) : exec (.ld_HL_SPe e) s =
    .next (((s.retire 2 12).setHl (spPlusResult s.sp e).1).setFlags (spPlusResult s.sp e).2) := rfl

/-! ### The statement -/

/-- Settles O38: `LD HL,SP+e` by the sum over the natural numbers, the other rows by the updates they are. -/
theorem loadSixteenBits : Obligations.LoadSixteenBits := by
  refine ⟨fun p nn s => ⟨decodesTo_of_encode (encode_ofLdPair p nn), exec_ofLdPair p nn s⟩,
    fun nn s => ⟨decodesTo_of_encode rfl, rfl⟩,
    fun s => ⟨decodesTo_of_encode rfl, rfl⟩,
    fun e s => ⟨decodesTo_of_encode rfl, ?_⟩⟩
  rw [exec_ld_HL_SPe, spPlusResult_eq]
  rfl

end Sys2Proof.Machine
end

section
/-!
PROOF. O39, O40, O41, O44: the 8-bit arithmetic and logic of 42 R230 to R242 and R244 to R246. Each result function of
the model is stated once over the integers; a row's next state is its result put into the state.
-/
namespace Sys2Proof.Machine

/-! ### The result functions over the integers -/

@[simp] theorem bitNat_false : bitNat false = 0 := rfl
@[simp] theorem bitNat_true : bitNat true = 1 := rfl

theorem bitNat_le_one (c : Bool) : bitNat c ≤ 1 := by cases c <;> decide

theorem byte_eq_zero_iff (b : Byte) : b = 0#8 ↔ b.toNat = 0 := BitVec.toNat_inj.symm

theorem ofNat_eq_zero_iff (t : Nat) : BitVec.ofNat 8 t = 0#8 ↔ t % 256 = 0 := by
  rw [byte_eq_zero_iff, BitVec.toNat_ofNat]

theorem ofInt_eq_zero_iff (t : Int) : BitVec.ofInt 8 t = 0#8 ↔ t % 256 = 0 := by
  rw [byte_eq_zero_iff, BitVec.toNat_ofInt]
  omega

theorem addResult_eq (a v : Byte) (c : Bool) : addResult a v c = (BitVec.ofNat 8 (a.toNat + v.toNat + bitNat c),
    { z := decide ((a.toNat + v.toNat + bitNat c) % 256 = 0), n := false,
      h := decide (a.toNat % 16 + v.toNat % 16 + bitNat c > 15), c := decide (a.toNat + v.toNat + bitNat c > 255) }) := by
  simp only [addResult, lowNibble_eq_mod, ofNat_eq_zero_iff]

/-- A sum of bytes is the sum over the natural numbers narrowed at the end (spec 00 R7). -/
theorem add_eq_ofNat (a v : Byte) : a + v = BitVec.ofNat 8 (a.toNat + v.toNat) := by
  rw [BitVec.ofNat_add, BitVec.ofNat_toNat, BitVec.ofNat_toNat, BitVec.setWidth_eq, BitVec.setWidth_eq]

/-- So is a difference, kept at 0 or above by 256. -/
theorem sub_eq_ofNat (a v : Byte) : a - v = BitVec.ofNat 8 (a.toNat + 256 - v.toNat) := by
  apply BitVec.eq_of_toNat_eq
  rw [BitVec.toNat_sub, BitVec.toNat_ofNat]
  have := v.isLt
  omega

/-- A borrow through the byte is the integer difference narrowed at the end. -/
theorem sub_sub_eq_ofInt (a v : Byte) (c : Bool) :
    a - v - BitVec.ofNat 8 (bitNat c) = BitVec.ofInt 8 ((a.toNat : Int) - v.toNat - bitNat c) := by
  apply BitVec.eq_of_toNat_eq
  have hc := bitNat_le_one c
  simp only [BitVec.toNat_sub, BitVec.toNat_ofNat, BitVec.toNat_ofInt]
  omega

theorem subResult_eq (a v : Byte) (c : Bool) : subResult a v c =
    (BitVec.ofInt 8 ((a.toNat : Int) - v.toNat - bitNat c),
      { z := decide (((a.toNat : Int) - v.toNat - bitNat c) % 256 = 0), n := true,
        h := decide (a.toNat % 16 < v.toNat % 16 + bitNat c), c := decide (a.toNat < v.toNat + bitNat c) }) := by
  simp only [subResult, sub_sub_eq_ofInt, lowNibble_eq_mod, ofInt_eq_zero_iff]

/-- The flags of CP: Z is equality, because the discarded difference is zero just there (spec 42 R238). -/
theorem subResult_false_flags (a v : Byte) : (subResult a v false).2 =
    { z := decide (a = v), n := true, h := decide (a.toNat % 16 < v.toNat % 16), c := decide (a.toNat < v.toNat) } := by
  have hz : decide (a - v - BitVec.ofNat 8 (bitNat false) = 0#8) = decide (a = v) := by
    rw [decide_eq_decide, sub_sub_eq_ofInt, ofInt_eq_zero_iff, bitNat_false, ← BitVec.toNat_inj]
    have hlta := a.isLt
    have hltv := v.isLt
    omega
  simp only [subResult]
  rw [hz, lowNibble_eq_mod, lowNibble_eq_mod]
  rfl

theorem incResult_eq (a : Byte) (f : Flags) : incResult a f = (BitVec.ofNat 8 (a.toNat + 1),
    { z := decide ((a.toNat + 1) % 256 = 0), n := false, h := decide (a.toNat % 16 = 15), c := f.c }) := by
  have hr : a + 1#8 = BitVec.ofNat 8 (a.toNat + 1) := add_eq_ofNat a 1#8
  simp only [incResult, hr, lowNibble_eq_mod, ofNat_eq_zero_iff]

/-- Modulo 256, one less is 255 more. -/
theorem decResult_eq (a : Byte) (f : Flags) : decResult a f = (BitVec.ofNat 8 (a.toNat + 255),
    { z := decide ((a.toNat + 255) % 256 = 0), n := true, h := decide (a.toNat % 16 = 0), c := f.c }) := by
  have hr : a - 1#8 = BitVec.ofNat 8 (a.toNat + 255) := sub_eq_ofNat a 1#8
  simp only [decResult, hr, lowNibble_eq_mod, ofNat_eq_zero_iff]

theorem cplResult_eq (a : Byte) (f : Flags) :
    cplResult a f = (BitVec.ofNat 8 (255 - a.toNat), { z := f.z, n := true, h := true, c := f.c }) := by
  have hr : a ^^^ 0xFF#8 = BitVec.ofNat 8 (255 - a.toNat) := by
    apply BitVec.eq_of_toNat_eq
    rw [show a ^^^ 0xFF#8 = ~~~a from BitVec.xor_allOnes, BitVec.toNat_not, BitVec.toNat_ofNat]
    omega
  rw [cplResult, hr]

/-! ### The rows' encodings and next states -/

/-- A two-operand operation in any of its three forms (spec 42 R230). -/
theorem exec_of_aluForm {op : AluOp} {s : State} {i : Instr} {v : Byte} {len : Word} {cost : Nat}
    (h : aluForm op s i v len cost) : exec i s = .next { s with
      pc := s.pc + len, cycles := s.cycles + cost, a := (aluResult op s.a v s.flags).1
      flags := (aluResult op s.a v s.flags).2 } := by
  obtain ⟨r, rfl, rfl, rfl, rfl⟩ | ⟨rfl, rfl, rfl, rfl⟩ | ⟨rfl, rfl, rfl⟩ := h
  · exact exec_ofAlu op (.reg r) s
  · exact exec_ofAlu op .mHL s
  · exact exec_ofAluImm op v s

theorem encode_ofAluImm (op : AluOp) (n : Byte) : encode (ofAluImm op n) = [BitVec.ofNat 8 (0xC6 + 8 * op.code), n] := by
  cases op <;> rfl

theorem encode_ofInc_reg (r : Reg8) : encode (ofInc (.reg r)) = [BitVec.ofNat 8 (0x04 + 8 * r.code)] := by
  cases r <;> rfl

theorem encode_ofDec_reg (r : Reg8) : encode (ofDec (.reg r)) = [BitVec.ofNat 8 (0x05 + 8 * r.code)] := by
  cases r <;> rfl

/-- No register is a flag, so the order of the two writes does not matter. -/
theorem State.setFlags_setReg (s : State) (r : Reg8) (v : Byte) (f : Flags) :
    (s.setReg r v).setFlags f = (s.setFlags f).setReg r v := by cases r <;> rfl

theorem exec_ofInc_reg (r : Reg8) (s : State) : exec (ofInc (.reg r)) s =
    .next (((s.retire 1 4).setFlags (incResult (s.getReg r) s.flags).2).setReg r (incResult (s.getReg r) s.flags).1) := by
  rw [← State.setFlags_setReg]
  exact exec_ofInc (.reg r) s

theorem exec_ofDec_reg (r : Reg8) (s : State) : exec (ofDec (.reg r)) s =
    .next (((s.retire 1 4).setFlags (decResult (s.getReg r) s.flags).2).setReg r (decResult (s.getReg r) s.flags).1) := by
  rw [← State.setFlags_setReg]
  exact exec_ofDec (.reg r) s

theorem exec_inc_mHL (s : State) : exec .inc_mHL s =
    .next ((memWrite (s.retire 1 12) s.hl (incResult (memRead s s.hl) s.flags).1).setFlags
      (incResult (memRead s s.hl) s.flags).2) := rfl

theorem exec_dec_mHL (s : State) : exec .dec_mHL s =
    .next ((memWrite (s.retire 1 12) s.hl (decResult (memRead s s.hl) s.flags).1).setFlags
      (decResult (memRead s s.hl) s.flags).2) := rfl

theorem exec_cpl (s : State) : exec .cpl s =
    .next (((s.retire 1 4).setReg .a (cplResult s.a s.flags).1).setFlags (cplResult s.a s.flags).2) := rfl

/-! ### The statements -/

/-- Settles O39: each operation's result over the integers; without a carry in, the carry adds 0. -/
theorem addSubtract : Obligations.AddSubtract := by
  refine ⟨fun op o => decodesTo_of_encode (encode_ofAlu op o), fun op n => decodesTo_of_encode (encode_ofAluImm op n),
    fun s i v len cost h => ?add, fun s i v len cost h => ?adc, fun s i v len cost h => ?sub,
    fun s i v len cost h => ?sbc⟩ <;> rw [exec_of_aluForm h, aluResult]
  case add =>
    rw [addResult_eq]
    rfl
  case adc => rw [addResult_eq]
  case sub =>
    rw [subResult_eq, bitNat_false, Int.natCast_zero, Int.sub_zero]
    rfl
  case sbc => rw [subResult_eq]

/-- Settles O40: the results are the model's own; what is left is when Z is set. -/
theorem logicAndCompare : Obligations.LogicAndCompare := by
  refine ⟨fun op o => decodesTo_of_encode (encode_ofAlu op o), fun op n => decodesTo_of_encode (encode_ofAluImm op n),
    fun s i v len cost h => ?and, fun s i v len cost h => ?xor, fun s i v len cost h => ?or,
    fun s i v len cost h => ?cp⟩ <;> rw [exec_of_aluForm h, aluResult]
  case and => simp only [logicFlags, byte_eq_zero_iff, BitVec.toNat_and]
  case xor => simp only [logicFlags, BitVec.xor_eq_zero_iff]
  case or => simp only [logicFlags, BitVec.or_eq_zero_iff]
  case cp => rw [subResult_false_flags]

/-- Settles O41: the flags are written before or after the operand alike. -/
theorem incrementDecrementByte : Obligations.IncrementDecrementByte := by
  refine ⟨fun r s => ⟨decodesTo_of_encode (encode_ofInc_reg r), ?_⟩, fun s => ⟨decodesTo_of_encode rfl, ?_⟩,
    fun r s => ⟨decodesTo_of_encode (encode_ofDec_reg r), ?_⟩, fun s => ⟨decodesTo_of_encode rfl, ?_⟩⟩
  · rw [exec_ofInc_reg, incResult_eq]
    rfl
  · rw [exec_inc_mHL, incResult_eq]
    rfl
  · rw [exec_ofDec_reg, decResult_eq]
    rfl
  · rw [exec_dec_mHL, decResult_eq]
    rfl

/-- Settles O44: CPL by its result; SCF and CCF are the updates they are. -/
theorem accumulatorFlagOps : Obligations.AccumulatorFlagOps := by
  refine ⟨fun s => ⟨decodesTo_of_encode rfl, ?_⟩, fun s => ⟨decodesTo_of_encode rfl, rfl⟩,
    fun s => ⟨decodesTo_of_encode rfl, rfl⟩⟩
  rw [exec_cpl, cplResult_eq]
  rfl

end Sys2Proof.Machine
end

section
/-!
PROOF. O42, O43: DAA (42 R243), and ADC and SBC made decimal by it. The corrected byte is the two digits of the decimal
sum or difference modulo 100.
-/
namespace Sys2Proof.Machine

/-! ### DAA over the natural numbers -/

/-- DAA after an addition corrects the high digit: C, or A above 0x99. -/
def daaHigh (a : Byte) (f : Flags) : Bool := f.c || decide (a.toNat > 0x99)

/-- What DAA leaves in A before it is narrowed: A less or plus the corrections, kept at 0 or above by 256. -/
def daaTotal (a : Byte) (f : Flags) : Nat :=
  if f.n then a.toNat + 256 - ((if f.h then 0x06 else 0) + (if f.c then 0x60 else 0))
  else a.toNat + ((if f.h = true ∨ a.toNat % 16 > 9 then 0x06 else 0) + (if daaHigh a f then 0x60 else 0))

/-- The two corrections share no bit, so their `|||` is their sum. -/
theorem daaCorrection_toNat (low high : Prop) [Decidable low] [Decidable high] :
    ((if low then 0x06#8 else 0#8) ||| (if high then 0x60#8 else 0#8)).toNat =
      (if low then 0x06 else 0) + (if high then 0x60 else 0) := by
  by_cases hl : low <;> by_cases hh : high <;> simp [hl, hh]

theorem daaResult_eq (a : Byte) (f : Flags) : daaResult a f = (BitVec.ofNat 8 (daaTotal a f),
    { z := decide (daaTotal a f % 256 = 0), n := f.n, h := false, c := if f.n then f.c else daaHigh a f }) := by
  cases hn : f.n
  case true => simp only [daaResult, daaTotal, hn, if_true, sub_eq_ofNat, daaCorrection_toNat, ofNat_eq_zero_iff]
  case false =>
    simp only [daaResult, daaTotal, daaHigh, hn, Bool.false_eq_true, if_false, add_eq_ofNat, daaCorrection_toNat,
      ofNat_eq_zero_iff, lowNibble_eq_mod, Bool.or_eq_true, decide_eq_true_iff]

theorem exec_daa (s : State) : exec .daa s =
    .next (((s.retire 1 4).setReg .a (daaResult s.a s.flags).1).setFlags (daaResult s.a s.flags).2) := rfl

/-- Settles O42: `daaTotal` and `daaHigh` are the correction the statement writes out. -/
theorem decimalAdjust : Obligations.DecimalAdjust := by
  refine fun s => ⟨decodesTo_of_encode rfl, ?_⟩
  rw [exec_daa, daaResult_eq]
  rfl

/-! ### Two decimal digits -/

/-- The byte with the last two decimal digits of a number. -/
def bcdByte (d : Nat) : Byte := BitVec.ofNat 8 (16 * (d / 10 % 10) + d % 10)

theorem bcdByte_toNat (d : Nat) : (bcdByte d).toNat = 16 * (d / 10 % 10) + d % 10 := by
  rw [bcdByte, BitVec.toNat_ofNat]
  omega

theorem isBcd_bcdByte (d : Nat) : isBcd (bcdByte d) = true := by
  rw [isBcd, bcdByte_toNat, Bool.and_eq_true, decide_eq_true_iff, decide_eq_true_iff]
  omega

theorem bcdValue_bcdByte (d : Nat) : bcdValue (bcdByte d) = d % 100 := by
  rw [bcdValue, bcdByte_toNat]
  omega

/-- Any way to write a number's last two digits gives its byte. -/
theorem bcdByte_of_digits {p r : Nat} (hp : p ≤ 9) (hr : r ≤ 9) (k : Nat) :
    bcdByte (100 * k + 10 * p + r) = BitVec.ofNat 8 (16 * p + r) := by
  have hhigh : (100 * k + 10 * p + r) / 10 % 10 = p := by omega
  have hlow : (100 * k + 10 * p + r) % 10 = r := by omega
  rw [bcdByte, hhigh, hlow]

/-- The digits of a byte that is two decimal digits. -/
theorem digits_of_isBcd {v : Byte} (h : isBcd v = true) :
    ∃ x y, x ≤ 9 ∧ y ≤ 9 ∧ v.toNat % 16 = y ∧ v.toNat = 16 * x + y ∧ bcdValue v = 10 * x + y := by
  rw [isBcd, Bool.and_eq_true, decide_eq_true_iff, decide_eq_true_iff] at h
  exact ⟨v.toNat / 16, v.toNat % 16, h.2, h.1, rfl, (Nat.div_add_mod _ _).symm, rfl⟩

theorem bitNat_eq_one_iff (e : Bool) : bitNat e = 1 ↔ e = true := by cases e <;> decide

/-- A test that is a carry or a borrow, where that is known as a number. -/
theorem decide_eq_of_iff_bitNat {P : Prop} [Decidable P] {e : Bool} (h : P ↔ bitNat e = 1) : decide P = e :=
  Bool.eq_iff_iff.mpr ((decide_eq_true_iff.trans h).trans (bitNat_eq_one_iff e))

theorem ite_eq_mul_bitNat (e : Bool) (k : Nat) : (if e then k else 0) = k * bitNat e := by cases e <;> simp

/-- One column of a decimal addition: digit `r`, carry `e`. -/
theorem exists_digit_add {x y : Nat} (hx : x ≤ 9) (hy : y ≤ 9) (c : Bool) :
    ∃ (e : Bool) (r : Nat), r ≤ 9 ∧ x + y + bitNat c = 10 * bitNat e + r := by
  have hc := bitNat_le_one c
  by_cases h : x + y + bitNat c ≤ 9
  · exact ⟨false, _, h, (Nat.zero_add _).symm⟩
  · exact ⟨true, x + y + bitNat c - 10, by omega, by rw [bitNat_true]; omega⟩

/-- One column of a decimal subtraction: digit `r`, borrow `e`. -/
theorem exists_digit_sub {x y : Nat} (hx : x ≤ 9) (hy : y ≤ 9) (c : Bool) :
    ∃ (e : Bool) (r : Nat), r ≤ 9 ∧ x + 10 * bitNat e = y + bitNat c + r := by
  have hc := bitNat_le_one c
  by_cases h : y + bitNat c ≤ x
  · exact ⟨false, x - (y + bitNat c), by omega, by rw [bitNat_false]; omega⟩
  · exact ⟨true, x + 10 - (y + bitNat c), by omega, by rw [bitNat_true]; omega⟩

/-! ### DAA after an addition and after a subtraction -/

/-- After an addition H or a low nibble above 9 is the carry of the low column, and C or a byte above 0x99 that of the
high column. -/
theorem daaResult_addResult {a v : Byte} (ha : isBcd a = true) (hv : isBcd v = true) (c : Bool) :
    (daaResult (addResult a v c).1 (addResult a v c).2).1 = bcdByte (bcdValue a + bcdValue v + bitNat c) ∧
    (daaResult (addResult a v c).1 (addResult a v c).2).2.c = decide (100 ≤ bcdValue a + bcdValue v + bitNat c) := by
  obtain ⟨x, y, hx, hy, hya, hxya, hda⟩ := digits_of_isBcd ha
  obtain ⟨x', y', hx', hy', hyv, hxyv, hdv⟩ := digits_of_isBcd hv
  obtain ⟨e, r, hr, hlo⟩ := exists_digit_add hy hy' c
  obtain ⟨q, p, hp, hhi⟩ := exists_digit_add hx hx' e
  have he := bitNat_le_one e
  have hq := bitNat_le_one q
  have hd : bcdValue a + bcdValue v + bitNat c = 100 * bitNat q + 10 * p + r := by omega
  have ht : a.toNat + v.toNat + bitNat c + 6 * bitNat e = 160 * bitNat q + 16 * p + r := by omega
  have hcarry : decide (100 ≤ 100 * bitNat q + 10 * p + r) = q := decide_eq_of_iff_bitNat (by omega)
  rw [addResult_eq, hya, hyv, hlo, hd, hcarry, daaResult_eq, bcdByte_of_digits hp hr]
  generalize a.toNat + v.toNat + bitNat c = t at ht
  have hlow : (decide (10 * bitNat e + r > 15) = true ∨ t % 256 % 16 > 9) ↔ e = true := by
    rw [decide_eq_true_iff, ← bitNat_eq_one_iff e]
    omega
  have hhigh : (decide (t > 255) || decide (t % 256 > 0x99)) = q := by
    rw [← Bool.decide_or]
    exact decide_eq_of_iff_bitNat (by omega)
  constructor
  · apply BitVec.eq_of_toNat_eq
    simp only [daaTotal, daaHigh, BitVec.toNat_ofNat, Nat.reducePow, Bool.false_eq_true, if_false, hlow, hhigh,
      ite_eq_mul_bitNat]
    omega
  · simp only [daaHigh, BitVec.toNat_ofNat, Nat.reducePow, Bool.false_eq_true, if_false, hhigh]

/-- After a subtraction H and C are the borrows of the two columns. -/
theorem daaResult_subResult {a v : Byte} (ha : isBcd a = true) (hv : isBcd v = true) (c : Bool) :
    (daaResult (subResult a v c).1 (subResult a v c).2).1 = bcdByte (bcdValue a + 100 - bcdValue v - bitNat c) ∧
    (daaResult (subResult a v c).1 (subResult a v c).2).2.c = decide (bcdValue a < bcdValue v + bitNat c) := by
  obtain ⟨x, y, hx, hy, hya, hxya, hda⟩ := digits_of_isBcd ha
  obtain ⟨x', y', hx', hy', hyv, hxyv, hdv⟩ := digits_of_isBcd hv
  obtain ⟨e, r, hr, hlo⟩ := exists_digit_sub hy hy' c
  obtain ⟨q, p, hp, hhi⟩ := exists_digit_sub hx hx' e
  have he := bitNat_le_one e
  have hq := bitNat_le_one q
  have hd : bcdValue a + 100 - bcdValue v - bitNat c = 100 * (1 - bitNat q) + 10 * p + r := by omega
  have ht : (a.toNat : Int) - v.toNat - bitNat c + 160 * bitNat q = 16 * p + r + 6 * bitNat e := by omega
  have hlow : decide (y < y' + bitNat c) = e := decide_eq_of_iff_bitNat (by omega)
  have hhigh : decide (a.toNat < v.toNat + bitNat c) = q := decide_eq_of_iff_bitNat (by omega)
  have hborrow : decide (bcdValue a < bcdValue v + bitNat c) = q := decide_eq_of_iff_bitNat (by omega)
  rw [subResult_eq, hya, hyv, hlow, hhigh, hd, hborrow, daaResult_eq, bcdByte_of_digits hp hr]
  constructor
  · apply BitVec.eq_of_toNat_eq
    generalize (a.toNat : Int) - v.toNat - bitNat c = t at ht
    simp only [daaTotal, BitVec.toNat_ofNat, BitVec.toNat_ofInt, if_true, ite_eq_mul_bitNat]
    omega
  · rfl

/-- Settles O43: ADC and SBC leave `addResult` and `subResult` for DAA, and the value of `bcdByte` is modulo 100. -/
theorem decimalArithmetic : Obligations.DecimalArithmetic := by
  constructor <;> intro s t u n ha hn ht hu <;> cases ht <;> cases hu
  · obtain ⟨hbyte, hcarry⟩ := daaResult_addResult ha hn s.flags.c
    exact ⟨hbyte ▸ isBcd_bcdByte _, hbyte ▸ bcdValue_bcdByte _, hcarry⟩
  · obtain ⟨hbyte, hborrow⟩ := daaResult_subResult ha hn s.flags.c
    exact ⟨hbyte ▸ isBcd_bcdByte _, hbyte ▸ bcdValue_bcdByte _, hborrow⟩

end Sys2Proof.Machine
end

section
/-!
PROOF. O45: the 16-bit arithmetic of 43 R260 to R263, as sums over the natural numbers narrowed at the end.
-/
namespace Sys2Proof.Machine

/-! ### Sums of words over the natural numbers -/

theorem word_add_ofNat (w : Word) (k : Nat) : w + BitVec.ofNat 16 k = BitVec.ofNat 16 (w.toNat + k) := by
  rw [BitVec.ofNat_add, BitVec.ofNat_toNat, BitVec.setWidth_eq]

/-- Modulo 2^16, one less is 65535 more. -/
theorem word_sub_one (w : Word) : w - 1#16 = BitVec.ofNat 16 (w.toNat + 65535) :=
  (BitVec.sub_eq_add_neg w 1#16).trans (word_add_ofNat w 65535)

/-- H is the carry of the low twelve bits, C that of the whole sum (spec 43 R260). -/
theorem addHlResult_eq (a v : Word) (f : Flags) : addHlResult a v f = (BitVec.ofNat 16 (a.toNat + v.toNat),
    { z := f.z, n := false, h := decide (a.toNat % 4096 + v.toNat % 4096 > 4095),
      c := decide (a.toNat + v.toNat > 65535) }) := by
  have hlow (w : Word) : (w &&& 0x0FFF#16).toNat = w.toNat % 4096 := Nat.and_two_pow_sub_one_eq_mod w.toNat 12
  rw [addHlResult, hlow, hlow, ← word_add_ofNat, BitVec.ofNat_toNat, BitVec.setWidth_eq]

/-! ### The rows' encodings and next states -/

theorem encode_ofAddHl (p : Pair) : encode (ofAddHl p) = [BitVec.ofNat 8 (0x09 + 16 * p.code)] := by cases p <;> rfl

theorem encode_ofIncPair (p : Pair) : encode (ofIncPair p) = [BitVec.ofNat 8 (0x03 + 16 * p.code)] := by cases p <;> rfl

theorem encode_ofDecPair (p : Pair) : encode (ofDecPair p) = [BitVec.ofNat 8 (0x0B + 16 * p.code)] := by cases p <;> rfl

theorem exec_add_SP_e (e : Byte) (s : State) : exec (.add_SP_e e) s =
    .next (((s.retire 2 16).setPair .sp (spPlusResult s.sp e).1).setFlags (spPlusResult s.sp e).2) := rfl

/-! ### The statement -/

/-- Settles O45: each row's result is its sum over the natural numbers, narrowed to a word. -/
theorem sixteenBitArithmetic : Obligations.SixteenBitArithmetic := by
  refine ⟨fun p s => ⟨decodesTo_of_encode (encode_ofAddHl p), ?addHl⟩,
    fun p s => ⟨decodesTo_of_encode (encode_ofIncPair p), ?incPair⟩,
    fun p s => ⟨decodesTo_of_encode (encode_ofDecPair p), ?decPair⟩,
    fun e s => ⟨decodesTo_of_encode rfl, ?addSp⟩⟩
  case addHl =>
    rw [exec_ofAddHl, addHl, addHlResult_eq]
    rfl
  case incPair =>
    rw [exec_ofIncPair, word_add_ofNat]
    rfl
  case decPair =>
    rw [exec_ofDecPair, word_sub_one]
    rfl
  case addSp =>
    rw [exec_add_SP_e, spPlusResult_eq]
    rfl

end Sys2Proof.Machine
end

section
/-!
PROOF. O46, O47: the rotates, shifts and SWAP of 44 R270 to R282. `rotArith` is the model's operation on bytes read over
the natural numbers: a bit that enters a shifted byte meets a 0, so the `|||` that puts it there adds it.
-/
namespace Sys2Proof.Machine

/-! ### Bits of a byte over the natural numbers -/

theorem bitAt_toNat (b : Bool) {k : Nat} (hk : k < 8) : (bitAt b k).toNat = 2 ^ k * bitNat b := by
  cases b
  · rfl
  · revert k
    decide

theorem bitNat_getLsbD_zero (a : Byte) : bitNat (a.getLsbD 0) = a.toNat % 2 := by
  rw [← BitVec.testBit_toNat, bitNat_testBit, Nat.pow_zero, Nat.div_one]

theorem bitNat_getLsbD_seven (a : Byte) : bitNat (a.getLsbD 7) = a.toNat / 128 := by
  rw [← BitVec.testBit_toNat, bitNat_testBit]
  have ha := a.isLt
  omega

/-- A multiple of a power of two shares no bit with a number below that power. -/
theorem or_eq_add_of_dvd {x y : Nat} (i : Nat) (hx : 2 ^ i ∣ x) (hy : y < 2 ^ i) : x ||| y = x + y := by
  obtain ⟨k, rfl⟩ := hx
  exact (Nat.two_pow_add_eq_or_of_lt hy k).symm

/-! ### The results over the natural numbers -/

theorem shiftLeft_one_toNat (a : Byte) : (a <<< 1).toNat = 2 * a.toNat % 256 := by
  rw [BitVec.toNat_shiftLeft, Nat.shiftLeft_eq, Nat.pow_one, Nat.mul_comm]

theorem ushiftRight_one_toNat (a : Byte) : (a >>> 1).toNat = a.toNat / 2 := BitVec.toNat_ushiftRight a 1

/-- A shift to the left with a bit entering at bit 0. -/
theorem shiftLeft_or_bitAt_toNat (a : Byte) (b : Bool) :
    ((a <<< 1) ||| bitAt b 0).toNat = 2 * a.toNat % 256 + bitNat b := by
  have hb := bitNat_le_one b
  rw [BitVec.toNat_or, shiftLeft_one_toNat, bitAt_toNat b (by decide), Nat.pow_zero, Nat.one_mul]
  exact or_eq_add_of_dvd 1 (by omega) (by omega)

/-- A shift to the right with a bit entering at bit 7. -/
theorem ushiftRight_or_bitAt_toNat (a : Byte) (b : Bool) :
    ((a >>> 1) ||| bitAt b 7).toNat = a.toNat / 2 + 128 * bitNat b := by
  have ha := a.isLt
  rw [BitVec.toNat_or, ushiftRight_one_toNat, bitAt_toNat b (by decide), Nat.or_comm, Nat.add_comm]
  exact or_eq_add_of_dvd 7 (Nat.dvd_mul_right _ _) (by omega)

/-- The bit SRA keeps is one that enters at bit 7 (44 R280). -/
theorem and_0x80_eq_bitAt (a : Byte) : a &&& 0x80#8 = bitAt (a.getLsbD 7) 7 := BitVec.and_twoPow a 7

theorem swapNibbles_toNat (a : Byte) :
    (((a &&& 0x0F#8) <<< 4) ||| (a >>> 4)).toNat = 16 * (a.toNat % 16) + a.toNat / 16 := by
  have ha := a.isLt
  have hhigh : ((a &&& 0x0F#8) <<< 4).toNat = 16 * (a.toNat % 16) := by
    rw [BitVec.toNat_shiftLeft, show (a &&& 0x0F#8).toNat = a.toNat % 16 from lowNibble_eq_mod a, Nat.shiftLeft_eq]
    omega
  have hlow : (a >>> 4).toNat = a.toNat / 16 := by
    rw [BitVec.toNat_ushiftRight, Nat.shiftRight_eq_div_pow]
  rw [BitVec.toNat_or, hhigh, hlow]
  exact or_eq_add_of_dvd 4 (Nat.dvd_mul_right _ _) (by omega)

/-- `rotArith` is the model's operation, its result and its carry read as numbers. -/
theorem rotArith_toNat (op : RotOp) (a : Byte) (c : Bool) :
    rotArith op a.toNat (bitNat c) = ((rotResult op a c).1.toNat, bitNat (rotResult op a c).2) := by
  cases op <;> rw [rotArith, rotResult]
  case rlc => rw [shiftLeft_or_bitAt_toNat, bitNat_getLsbD_seven]
  case rrc => rw [ushiftRight_or_bitAt_toNat, bitNat_getLsbD_zero]
  case rl => rw [shiftLeft_or_bitAt_toNat, bitNat_getLsbD_seven]
  case rr => rw [ushiftRight_or_bitAt_toNat, bitNat_getLsbD_zero]
  case sla => rw [shiftLeft_one_toNat, bitNat_getLsbD_seven]
  case sra => rw [and_0x80_eq_bitAt, ushiftRight_or_bitAt_toNat, bitNat_getLsbD_seven, bitNat_getLsbD_zero]
  case swap => rw [swapNibbles_toNat, bitNat_false]
  case srl => rw [ushiftRight_one_toNat, bitNat_getLsbD_zero]

theorem rotResult_fst_eq (op : RotOp) (a : Byte) (c : Bool) :
    (rotResult op a c).1 = BitVec.ofNat 8 (rotArith op a.toNat (bitNat c)).1 := by
  rw [rotArith_toNat, BitVec.ofNat_toNat, BitVec.setWidth_eq]

theorem rotResult_snd_eq (op : RotOp) (a : Byte) (c : Bool) :
    (rotResult op a c).2 = decide ((rotArith op a.toNat (bitNat c)).2 = 1) := by
  rw [rotArith_toNat]
  exact (decide_eq_of_iff_bitNat Iff.rfl).symm

theorem rotFlags_rotResult (op : RotOp) (a : Byte) (c : Bool) :
    rotFlags (rotResult op a c).1 (rotResult op a c).2 =
      { z := decide ((rotArith op a.toNat (bitNat c)).1 = 0), n := false, h := false,
        c := decide ((rotArith op a.toNat (bitNat c)).2 = 1) } := by
  rw [← rotResult_snd_eq, rotArith_toNat]
  simp only [rotFlags, byte_eq_zero_iff]

/-! ### The statements -/

/-- The one form of the four rows on A (44 R270 to R273). -/
theorem rotAccumulator_eq (op : RotOp) (s : State) : rotAccumulator op s = .next { s with
    pc := s.pc + 1#16, cycles := s.cycles + 4, a := BitVec.ofNat 8 (rotArith op s.a.toNat (bitNat s.flags.c)).1,
    flags := {
        z := false, n := false, h := false, c := decide ((rotArith op s.a.toNat (bitNat s.flags.c)).2 = 1) } } := by
  rw [← rotResult_fst_eq, ← rotResult_snd_eq]
  rfl

/-- Settles O46: each row is its operation on A. -/
theorem rotateAccumulator : Obligations.RotateAccumulator :=
  ⟨fun s => ⟨decodesTo_of_encode rfl, rotAccumulator_eq .rlc s⟩,
    fun s => ⟨decodesTo_of_encode rfl, rotAccumulator_eq .rrc s⟩,
    fun s => ⟨decodesTo_of_encode rfl, rotAccumulator_eq .rl s⟩,
    fun s => ⟨decodesTo_of_encode rfl, rotAccumulator_eq .rr s⟩⟩

/-- Settles O47: no register is a flag, so the result and the flags may be written in either order. -/
theorem rotateShiftOperand : Obligations.RotateShiftOperand := by
  refine ⟨fun op o => decodesTo_of_encode (encode_ofRot op o), fun op r s => ?reg, fun op s => ?mHL⟩
  case reg =>
    rw [exec_ofRot, rotOperand, State.setOperand, State.setFlags_setReg, rotFlags_rotResult, rotResult_fst_eq]
    rfl
  case mHL =>
    rw [exec_ofRot, rotOperand, rotFlags_rotResult, rotResult_fst_eq]
    rfl

end Sys2Proof.Machine
end

section
/-!
PROOF. O48, O49: the bit operations of 45 R300 to R302. RES is the operand with a hole at bit b, and `bitAt` fills that
hole without a carry: the operand's own bit gives the operand back, a 1 gives SET. So both results are sums.
-/
namespace Sys2Proof.Machine

/-! ### The results over the natural numbers -/

theorem bitNat_getLsbD (a : Byte) (k : Nat) : bitNat (a.getLsbD k) = a.toNat / 2 ^ k % 2 := by
  rw [← BitVec.testBit_toNat, bitNat_testBit]

theorem resResult_eq_and_not (b : Fin 8) (a : Byte) : resResult b a = a &&& ~~~(bitAt true b) :=
  congrArg (a &&& ·) BitVec.allOnes_xor

/-- A bit that fills the hole RES leaves is added to it. -/
theorem resResult_or_bitAt_toNat (b : Fin 8) (a : Byte) (e : Bool) :
    (resResult b a ||| bitAt e b).toNat = (resResult b a).toNat + 2 ^ b.val * bitNat e := by
  have hhole : resResult b a &&& bitAt e b = 0#8 := by
    rw [resResult_eq_and_not, BitVec.and_assoc]
    cases e <;> simp [bitAt]
  rw [← BitVec.add_eq_or_of_and_eq_zero _ _ hhole, BitVec.toNat_add_of_and_eq_zero hhole, bitAt_toNat e b.isLt]

theorem resResult_or_bitAt_getLsbD (b : Fin 8) (a : Byte) : resResult b a ||| bitAt (a.getLsbD b) b = a := by
  have hown : a &&& bitAt true b = bitAt (a.getLsbD b) b := BitVec.and_twoPow a b
  rw [resResult_eq_and_not, ← hown, ← BitVec.and_or_distrib_left, BitVec.not_or_self, BitVec.and_allOnes]

theorem resResult_or_bitAt_true (b : Fin 8) (a : Byte) : resResult b a ||| bitAt true b = setResult b a := by
  rw [resResult_eq_and_not, show setResult b a = a ||| bitAt true b from rfl]
  ext i
  simp only [BitVec.getElem_or, BitVec.getElem_and, BitVec.getElem_not]
  rw [Bool.or_and_distrib_right, Bool.not_or_self, Bool.and_true]

/-- The operand is RES plus its own bit. -/
theorem resResult_toNat_add (b : Fin 8) (a : Byte) :
    (resResult b a).toNat + a.toNat / 2 ^ b.val % 2 * 2 ^ b.val = a.toNat := by
  rw [← bitNat_getLsbD, Nat.mul_comm, ← resResult_or_bitAt_toNat, resResult_or_bitAt_getLsbD]

/-- SET is RES plus a 1. -/
theorem setResult_toNat (b : Fin 8) (a : Byte) : (setResult b a).toNat = (resResult b a).toNat + 2 ^ b.val := by
  rw [← resResult_or_bitAt_true, resResult_or_bitAt_toNat, bitNat_true, Nat.mul_one]

theorem resResult_eq (b : Fin 8) (a : Byte) :
    resResult b a = BitVec.ofNat 8 (a.toNat - a.toNat / 2 ^ b.val % 2 * 2 ^ b.val) := by
  rw [← Nat.eq_sub_of_add_eq (resResult_toNat_add b a), BitVec.ofNat_toNat, BitVec.setWidth_eq]

theorem setResult_eq (b : Fin 8) (a : Byte) :
    setResult b a = BitVec.ofNat 8 (a.toNat + (1 - a.toNat / 2 ^ b.val % 2) * 2 ^ b.val) := by
  have hsum : (setResult b a).toNat = a.toNat + (1 - a.toNat / 2 ^ b.val % 2) * 2 ^ b.val := by
    have hres := resResult_toNat_add b a
    rw [setResult_toNat]
    obtain hbit | hbit := Nat.mod_two_eq_zero_or_one (a.toNat / 2 ^ b.val) <;> rw [hbit] at hres ⊢ <;> omega
  rw [← hsum, BitVec.ofNat_toNat, BitVec.setWidth_eq]

/-- Z is the tested bit read as a digit (spec 45 R300). -/
theorem bitFlags_eq (b : Fin 8) (a : Byte) (f : Flags) : bitFlags b a f =
    { z := decide (a.toNat / 2 ^ b.val % 2 = 0), n := false, h := true, c := f.c } := by
  rw [bitFlags, ← bitNat_getLsbD]
  cases a.getLsbD b <;> rfl

/-! ### The statements -/

/-- Settles O48: both forms are `bitFlags` of the operand, which writes nothing. -/
theorem bitTest : Obligations.BitTest := by
  refine ⟨fun b o => decodesTo_of_encode (encode_ofBit b o), fun b r s => ?reg, fun b s => ?mHL⟩
  case reg | mHL =>
    rw [exec_ofBit, bitOperand, bitFlags_eq]
    rfl

/-- Settles O49: both forms write the result back, whatever it is. -/
theorem resetSetBit : Obligations.ResetSetBit := by
  refine ⟨fun b o => decodesTo_of_encode (encode_ofRes b o), fun b r s => ?resReg, fun b s => ?resMem,
    fun b o => decodesTo_of_encode (encode_ofSet b o), fun b r s => ?setReg, fun b s => ?setMem⟩
  case resReg | resMem =>
    rw [exec_ofRes, resOperand, resResult_eq]
    rfl
  case setReg | setMem =>
    rw [exec_ofSet, setBitOperand, setResult_eq]
    rfl

end Sys2Proof.Machine
end

section
/-!
PROOF. O50, O51, O52: the jumps, calls and returns of 46 R310 to R321. What a call or a return does from the state past
the instruction is stated once, for any length and cost; each row is a case of it, a conditional row under its condition.
-/
namespace Sys2Proof.Machine

/-! ### Encodings -/

theorem encode_ofJp (cc : Cond) (nn : Word) :
    encode (ofJp cc nn) = [BitVec.ofNat 8 (0xC2 + 8 * cc.code), lo8 nn, hi8 nn] := by cases cc <;> rfl

theorem encode_ofJr (cc : Cond) (e : Byte) : encode (ofJr cc e) = [BitVec.ofNat 8 (0x20 + 8 * cc.code), e] := by
  cases cc <;> rfl

theorem encode_ofCall (cc : Cond) (nn : Word) :
    encode (ofCall cc nn) = [BitVec.ofNat 8 (0xC4 + 8 * cc.code), lo8 nn, hi8 nn] := by cases cc <;> rfl

theorem encode_ofRst (t : Fin 8) : encode (ofRst t) = [BitVec.ofNat 8 (0xC7 + 8 * t.val)] := by
  match t with
  | 0 | 1 | 2 | 3 | 4 | 5 | 6 | 7 => rfl

theorem encode_ofRet (cc : Cond) : encode (ofRet cc) = [BitVec.ofNat 8 (0xC0 + 8 * cc.code)] := by cases cc <;> rfl

/-! ### Jumps -/

/-- The displacement counts from the instruction after the JR (46 R314). -/
theorem jrTarget_eq_ofNat (pc : Word) (e : Byte) : pc + 2#16 + sext16 e =
    BitVec.ofNat 16 (pc.toNat + 2 + (if e.toNat < 128 then e.toNat else e.toNat + 65280)) := by
  rw [word_add_ofNat pc 2, sext16_eq_ofNat, ← BitVec.ofNat_add]

theorem exec_jr_e (e : Byte) (s : State) : exec (.jr_e e) s =
    .next ((s.retire 2 12).jump (s.pc + 2#16 + sext16 e)) := rfl

theorem jpIf_eq (cc : Cond) (nn : Word) (s : State) : jpIf cc nn s =
    .next (if s.cond cc then (s.retire 3 16).jump nn else s.retire 3 12) := (apply_ite Host.Outcome.next _ _ _).symm

theorem jrIf_eq (cc : Cond) (e : Byte) (s : State) : jrIf cc e s =
    .next (if s.cond cc then (s.retire 2 12).jump (s.pc + 2#16 + sext16 e) else s.retire 2 8) :=
  (apply_ite Host.Outcome.next _ _ _).symm

/-! ### Calls -/

/-- The address of the next instruction is pushed (46 R316, R321). -/
theorem callTo_retire_ok {s : State} (h : 2 ≤ s.sp.toNat) (len : Word) (cost : Nat) (target : Word) :
    callTo target (s.retire len cost) = .next (((s.retire len cost).pushed (s.pc + len)).jump target) := by
  rw [callTo, push16_eq_pushed (s := s.retire len cost) h]
  rfl

theorem callTo_retire_fault {s : State} (h : s.sp.toNat < 2) (len : Word) (cost : Nat) (target : Word) :
    callTo target (s.retire len cost) = .fault (.raised (.stackFault s.sp)) := by
  rw [callTo, push16_fault (s := s.retire len cost) h]
  rfl

theorem callIf_taken {cc : Cond} {s : State} (h : s.cond cc = true) (nn : Word) :
    callIf cc nn s = callTo nn (s.retire 3 24) := if_pos h

theorem callIf_not_taken {cc : Cond} {s : State} (h : s.cond cc = false) (nn : Word) :
    callIf cc nn s = .next (s.retire 3 12) := if_neg (Bool.eq_false_iff.mp h)

/-! ### Returns -/

@[simp] theorem memRead16_retire (s : State) (len : Word) (cost : Nat) (a : Word) :
    memRead16 (s.retire len cost) a = memRead16 s a := by
  have hbus : SameBus s (s.retire len cost) := ⟨rfl, rfl, rfl, rfl, rfl, rfl, rfl, rfl⟩
  rw [memRead16, hbus.memRead, hbus.memRead, memRead16]

/-- The popped pc replaces the one past the instruction (46 R318). -/
theorem retFrom_retire_ok {s : State} (h : s.sp.toNat ≤ 0xFFFD) (len : Word) (cost : Nat) : retFrom (s.retire len cost) =
    .next { s with cycles := s.cycles + cost, sp := s.sp + 2#16, pc := memRead16 s s.sp } := by
  rw [retFrom, pop16_ok (s := s.retire len cost) h, memRead16_retire]
  rfl

theorem retFrom_retire_fault {s : State} (h : 0xFFFD < s.sp.toNat) (len : Word) (cost : Nat) :
    retFrom (s.retire len cost) = .fault (.raised (.stackFault s.sp)) := by
  rw [retFrom, pop16_fault (s := s.retire len cost) h]
  rfl

theorem retIf_taken {cc : Cond} {s : State} (h : s.cond cc = true) : retIf cc s = retFrom (s.retire 1 20) := if_pos h

theorem retIf_not_taken {cc : Cond} {s : State} (h : s.cond cc = false) : retIf cc s = .next (s.retire 1 8) :=
  if_neg (Bool.eq_false_iff.mp h)

theorem exec_reti_ok {s : State} (h : s.sp.toNat ≤ 0xFFFD) : exec .reti s = .next { s with
    cycles := s.cycles + 16, sp := s.sp + 2#16, ime := true, eiPending := false, pc := memRead16 s s.sp } := by
  have hreti : exec .reti s = returnFromInterrupt (s.retire 1 16) := rfl
  rw [hreti, returnFromInterrupt_ok (s := s.retire 1 16) h, memRead16_retire]
  rfl

theorem exec_reti_fault {s : State} (h : 0xFFFD < s.sp.toNat) :
    exec .reti s = .fault (.raised (.stackFault s.sp)) := returnFromInterrupt_fault (s := s.retire 1 16) h

/-! ### The statements -/

/-- Settles O50: a relative target is a sum over the natural numbers, the other targets are the operand itself. -/
theorem jumps : Obligations.Jumps := by
  refine ⟨fun s => ⟨rfl, rfl, rfl, rfl⟩,
    fun nn s => ⟨decodesTo_of_encode rfl, rfl⟩,
    fun cc nn s => ⟨decodesTo_of_encode (encode_ofJp cc nn), (exec_ofJp cc nn s).trans (jpIf_eq cc nn s)⟩,
    fun s => ⟨decodesTo_of_encode rfl, rfl⟩,
    fun e s => ⟨decodesTo_of_encode rfl, ?jr⟩,
    fun cc e s => ⟨decodesTo_of_encode (encode_ofJr cc e), ?jrIf⟩⟩
  case jr =>
    rw [exec_jr_e, jrTarget_eq_ofNat]
    rfl
  case jrIf =>
    rw [exec_ofJr, jrIf_eq, jrTarget_eq_ofNat]
    rfl

/-- Settles O51: each row that calls is `callTo` from the state past the instruction. -/
theorem calls : Obligations.Calls := by
  refine ⟨fun nn s => ⟨decodesTo_of_encode rfl,
      fun h => callTo_retire_ok h 3 24 nn, fun h => callTo_retire_fault h 3 24 nn⟩,
    fun cc nn s => ⟨decodesTo_of_encode (encode_ofCall cc nn), ?callIf⟩,
    fun t s => ⟨decodesTo_of_encode (encode_ofRst t), ?rst⟩⟩
  case callIf =>
    rw [exec_ofCall]
    exact ⟨fun hc h => (callIf_taken hc nn).trans (callTo_retire_ok h 3 24 nn),
      fun hc h => (callIf_taken hc nn).trans (callTo_retire_fault h 3 24 nn),
      fun hc => callIf_not_taken hc nn⟩
  case rst =>
    rw [exec_ofRst]
    exact ⟨fun h => callTo_retire_ok h 1 16 _, fun h => callTo_retire_fault h 1 16 _⟩

/-- Settles O52: each row that returns is `retFrom` from the state past the instruction; RETI sets ime besides. -/
theorem returns : Obligations.Returns := by
  refine ⟨fun s => ⟨decodesTo_of_encode rfl, fun h => retFrom_retire_ok h 1 16, fun h => retFrom_retire_fault h 1 16⟩,
    fun cc s => ⟨decodesTo_of_encode (encode_ofRet cc), ?retIf⟩,
    fun s => ⟨decodesTo_of_encode rfl, exec_reti_ok, exec_reti_fault⟩⟩
  case retIf =>
    rw [exec_ofRet]
    exact ⟨fun hc h => (retIf_taken hc).trans (retFrom_retire_ok h 1 20),
      fun hc h => (retIf_taken hc).trans (retFrom_retire_fault h 1 20),
      retIf_not_taken⟩

end Sys2Proof.Machine
end

section
/-!
PROOF. O53: PUSH and POP of 47 R342 to R344, on the two sides of each end of the stack's range.
-/
namespace Sys2Proof.Machine

theorem encode_ofPush (q : StackPair) : encode (ofPush q) = [BitVec.ofNat 8 (0xC5 + 16 * q.code)] := by cases q <;> rfl

theorem encode_ofPop (q : StackPair) : encode (ofPop q) = [BitVec.ofNat 8 (0xC1 + 16 * q.code)] := by cases q <;> rfl

/-- F packed is the weighted sum of the flags (10 R24). -/
theorem Flags.toByte_eq_ofNat (f : Flags) :
    f.toByte = BitVec.ofNat 8 (128 * bitNat f.z + 64 * bitNat f.n + 32 * bitNat f.h + 16 * bitNat f.c) := by
  rw [← Flags.toByte_toNat, BitVec.ofNat_toNat, BitVec.setWidth_eq]

theorem pushPair_ok {s : State} (h : 2 ≤ s.sp.toNat) (q : StackPair) :
    pushPair q s = .next ((s.retire 1 16).pushed (s.getStackPair q)) := by
  rw [pushPair, push16_eq_pushed (s := s.retire 1 16) h]
  rfl

theorem pushPair_fault {s : State} (h : s.sp.toNat < 2) (q : StackPair) :
    pushPair q s = .fault (.raised (.stackFault s.sp)) := by
  rw [pushPair, push16_fault (s := s.retire 1 16) h]
  rfl

theorem popPair_ok {s : State} (h : s.sp.toNat ≤ 0xFFFD) (q : StackPair) : popPair q s =
    .next (({ s.retire 1 12 with sp := s.sp + 2#16 } : State).setStackPair q (memRead16 s s.sp)) := by
  rw [popPair, pop16_ok (s := s.retire 1 12) h, memRead16_retire]
  rfl

theorem popPair_fault {s : State} (h : 0xFFFD < s.sp.toNat) (q : StackPair) :
    popPair q s = .fault (.raised (.stackFault s.sp)) := by
  rw [popPair, pop16_fault (s := s.retire 1 12) h]
  rfl

/-- Settles O53: each row is `pushPair` or `popPair` of its pair; AF is pushed with F packed. -/
theorem pushAndPop : Obligations.PushAndPop := by
  refine ⟨fun q s => ⟨decodesTo_of_encode (encode_ofPush q), fun h => ?push, fun h => ?overflow⟩,
    fun q s => ⟨decodesTo_of_encode (encode_ofPop q), fun h => ?pop, fun h => ?underflow⟩⟩
  case push =>
    rw [exec_ofPush, pushPair_ok h, ← Flags.toByte_eq_ofNat]
    cases q <;> rfl
  case overflow => rw [exec_ofPush, pushPair_fault h]
  case pop =>
    rw [exec_ofPop, popPair_ok h, memRead16]
    cases q <;> simp only [State.setStackPair, hi8_word16, lo8_word16] <;> rfl
  case underflow => rw [exec_ofPop, popPair_fault h]

end Sys2Proof.Machine
end

section
/-!
PROOF. O8, O9, O55: what a running machine's step does (60 R402): it takes an interrupt, idles, or fetches; and the
control instructions of 48 R350 to R354.
-/
namespace Sys2Proof.Machine

/-! ### The beginning of a step -/

theorem pending_ne_zero_iff (s : State) : pending s ≠ 0#5 ↔ s.somePending = true := by
  rw [Ne, pending_eq_zero_iff, Bool.not_eq_false]

theorem wakeIfPending_of_somePending {s : State} (h : s.somePending = true) :
    wakeIfPending s = { s with halted := false } := if_neg ((pending_ne_zero_iff s).mpr h)

theorem wakeIfPending_of_not_somePending {s : State} (h : s.somePending = false) : wakeIfPending s = s :=
  if_pos ((pending_eq_zero_iff s).mpr h)

/-! ### Idling -/

theorem step_eq_idleStep {s : State} (hf : s.fault = none) (hs : s.stopped = false) (hh : s.halted = true)
    (hp : s.somePending = false) : step s = .next (idleStep s) := by
  have hpending := (pending_eq_zero_iff s).mpr hp
  simp [step, hf, hs, hh, wakeIfPending_of_not_somePending hp, hpending]

/-- Settles O8: nothing wakes the machine, so its step is the idle one. -/
theorem haltedIdleStep : Obligations.HaltedIdleStep := fun _ => step_eq_idleStep

/-- Where no interrupt is taken, the machine idles or fetches (60 R402). -/
theorem willFetch_or_idle {s : State} (hf : s.fault = none) (hs : s.stopped = false)
    (h : s.ime = false ∨ s.somePending = false) : s.willFetch = true ∨ step s = .next (idleStep s) := by
  by_cases hidle : s.halted = true ∧ s.somePending = false
  · exact .inr (step_eq_idleStep hf hs hidle.1 hidle.2)
  · have hwake (hh : s.halted = true) : s.somePending = true := by simpa [hh] using hidle
    have hgate (hi : s.ime = true) : s.somePending = false := h.resolve_left (by simp [hi])
    exact .inl (s.willFetch_iff.mpr ⟨hf, hs, hwake, hgate⟩)

/-! ### Taking an interrupt -/

theorem step_eq_dispatchInterrupt {s : State} (hf : s.fault = none) (hs : s.stopped = false) (hi : s.ime = true)
    (hp : s.somePending = true) : step s = dispatchInterrupt { s with halted := false } := by
  have hpending := (pending_ne_zero_iff s).mpr hp
  rw [← wakeIfPending_of_somePending hp]
  simp [step, hf, hs, hi, hpending]

theorem somePending_of_pendingSource {s : State} {i : Nat} (h5 : i < 5) (h : s.pendingSource i = true) :
    s.somePending = true := List.any_eq_true.mpr ⟨i, List.mem_range.mpr h5, h⟩

/-- The source taken is the one source that is pending with none pending below it (60 R411). -/
theorem lowestSource_pending {s : State} {i : Nat} (h5 : i < 5) (h : s.pendingSource i = true)
    (hbelow : ∀ j, j < i → s.pendingSource j = false) : lowestSource (pending s) = i := by
  have hp := (pending_ne_zero_iff s).mpr (somePending_of_pendingSource h5 h)
  obtain ⟨hset, hclear⟩ := lowestSource_spec (pending s) hp
  rcases Nat.lt_trichotomy (lowestSource (pending s)) i with hlt | heq | hgt
  · rw [pending_getLsbD s (by omega), hbelow _ hlt] at hset
    exact nomatch hset
  · exact heq
  · have hi := hclear i hgt
    rw [pending_getLsbD s h5, h] at hi
    exact nomatch hi

@[simp] theorem State.pushed_cycles (s : State) (v : Word) : (s.pushed v).cycles = s.cycles := by simp [State.pushed]

/-- A dispatch with room on the stack, the source named (60 R420). -/
theorem dispatchInterrupt_of_lowestSource {s : State} {i : Nat} (hi : lowestSource (pending s) = i)
    (h : 2 ≤ s.sp.toNat) : dispatchInterrupt s = .next
      { ({ s with ifReg := s.ifReg &&& ~~~(1#5 <<< i), ime := false, eiPending := false }.pushed s.pc) with
        pc := BitVec.ofNat 16 (0x40 + 8 * i), cycles := s.cycles + 20 } := by
  subst hi
  have hcycles : (s.acknowledged.pushed s.pc).cycles = s.cycles := State.pushed_cycles _ _
  rw [dispatchInterrupt_ok h, State.jump, State.retire, hcycles]
  rfl

/-- The request set as the registers' bytes have it (60 R410). -/
theorem pending_setWidth (s : State) : (pending s).setWidth 8 = s.ieReg &&& s.ifReg.setWidth 8 &&& 0x1F#8 := by
  apply BitVec.eq_of_getLsbD_eq
  intro i hi
  have hmask : (0x1F#8).getLsbD i = decide (i < 5) := by
    revert i
    decide
  by_cases h5 : i < 5
  · simp [pending, hmask, hi, h5]
  · rw [BitVec.getLsbD_and, hmask, decide_eq_false h5, Bool.and_false, BitVec.getLsbD_setWidth,
      BitVec.getLsbD_of_ge _ _ (Nat.le_of_not_lt h5), Bool.and_false]

theorem somePending_eq_decide (s : State) :
    s.somePending = decide (s.ieReg &&& s.ifReg.setWidth 8 &&& 0x1F#8 ≠ 0#8) := by
  have hwidth : (pending s).setWidth 8 = 0#8 ↔ pending s = 0#5 := by
    generalize pending s = p
    bv_omega
  rw [← pending_setWidth, Bool.eq_iff_iff, decide_eq_true_iff, ← pending_ne_zero_iff]
  exact not_congr hwidth.symm

theorem hostStep_of_raised {s : State} {r : FaultRecord} (h : step s = .fault (.raised r)) :
    hostStep s = (.fault r, { s with fault := some r }) := by
  simp only [hostStep, h, State.record]

/-- Settles O9: the step of a machine with a source to take is the dispatch of the lowest one. -/
theorem interruptDispatch : Obligations.InterruptDispatch := by
  refine ⟨fun s i hf hs hime h5 hi hbelow => ?_, somePending_eq_decide, fun s hf hs h => willFetch_or_idle hf hs h⟩
  have hstep := step_eq_dispatchInterrupt hf hs hime (somePending_of_pendingSource h5 hi)
  constructor
  · intro hsp
    have hfault := hstep.trans (dispatchInterrupt_fault (s := { s with halted := false }) hsp)
    exact ⟨hfault, hostStep_of_raised hfault⟩
  · intro hsp
    rw [hstep]
    exact dispatchInterrupt_of_lowestSource (s := { s with halted := false }) (lowestSource_pending h5 hi hbelow) hsp

/-! ### The control instructions -/

/-- A halted machine with a source pending steps as it would awake (48 R351). -/
theorem step_eq_step_awake {s : State} (h : s.somePending = true) : step s = step { s with halted := false } := by
  have hwake : wakeIfPending { s with halted := false } = wakeIfPending s := by
    rw [wakeIfPending_of_somePending h, wakeIfPending_of_somePending (s := { s with halted := false }) h]
  simp only [step, hwake]

/-- Settles O55: the rows are the updates they are; HALT and EI by the beginning and the end of a step. -/
theorem controlInstructions : Obligations.ControlInstructions := by
  refine ⟨fun s => ⟨decodesTo_of_encode rfl, rfl⟩,
    fun s => ⟨decodesTo_of_encode rfl, rfl⟩,
    fun s hf hs hh => ⟨step_eq_idleStep hf hs hh, step_eq_step_awake⟩,
    fun n s => ⟨decodesTo_of_encode rfl, rfl⟩,
    fun s hf hs => ⟨step_of_stopped hf hs, rfl⟩,
    fun s => ⟨decodesTo_of_encode rfl, rfl⟩,
    fun s => ⟨decodesTo_of_encode rfl, (apply_ite Host.Outcome.next _ _ _).symm⟩,
    finishStep_eq⟩

end Sys2Proof.Machine
end

section
/-!
PROOF. O5, O10: where a running core faults. An instruction stops only at an end of the stack's range; a first byte that
is no instruction stops the core at once (48 R356, 60 R403, R404).
-/
namespace Sys2Proof.Machine

/-! ### The unassigned bytes -/

theorem encode_decodeBytes_head (b0 b1 b2 : Byte) : (encode (decodeBytes b0 b1 b2)).head? = some b0 := by
  obtain ⟨n, hpos, -, henc⟩ := encode_decodeBytes b0
  rw [henc, List.head?_take, if_neg (by omega)]
  rfl

theorem decodeBytes_illegal {b0 : Byte} (h : b0 ∈ illegalBytes) (b1 b2 : Byte) :
    (decodeBytes b0 b1 b2).wellFormed = false := by
  simp only [illegalBytes, List.mem_cons, List.not_mem_nil, or_false] at h
  obtain rfl | rfl | rfl | rfl | rfl | rfl | rfl | rfl | rfl | rfl | rfl := h <;> rfl

/-- What decodes to no instruction raises DecodeFault with its first byte, which is unassigned (48 R356). -/
theorem exec_decodeBytes_of_illFormed {b0 b1 b2 : Byte} (h : (decodeBytes b0 b1 b2).wellFormed = false) (s : State) :
    b0 ∈ illegalBytes ∧ exec (decodeBytes b0 b1 b2) s = .fault (.raised (.decodeFault b0 s.pc)) := by
  obtain ⟨op, hop, henc, hexec⟩ := exec_unassigned h s
  have hhead := encode_decodeBytes_head b0 b1 b2
  rw [henc] at hhead
  cases hhead
  exact ⟨hop, hexec⟩

theorem decodeBytes_wellFormed {b0 : Byte} (h : b0 ∉ illegalBytes) (b1 b2 : Byte) :
    (decodeBytes b0 b1 b2).wellFormed = true := by
  cases hw : (decodeBytes b0 b1 b2).wellFormed with
  | true => rfl
  | false => exact absurd (exec_decodeBytes_of_illFormed hw .reset).1 h

/-! ### What an instruction can answer -/

/-- The outcomes of an operation that faults only with sp, at an end of the stack's range (47 R340, R341). -/
inductive NextOrStackFault (sp : Word) : Result → Prop where
  | next (t : State) : NextOrStackFault sp (.next t)
  | fault (h : sp.toNat < 2 ∨ 0xFFFD < sp.toNat) : NextOrStackFault sp (.fault (.raised (.stackFault sp)))

theorem nextOrStackFault_ite {sp : Word} {c : Bool} {x y : Result} (hx : NextOrStackFault sp x)
    (hy : NextOrStackFault sp y) : NextOrStackFault sp (if c then x else y) := by
  split
  · exact hx
  · exact hy

/-- What pushes faults below two bytes of room and nowhere else (47 R340). -/
theorem nextOrStackFault_of_push {sp : Word} {r : Result} {t : State} (hok : 2 ≤ sp.toNat → r = .next t)
    (hfault : sp.toNat < 2 → r = .fault (.raised (.stackFault sp))) : NextOrStackFault sp r := by
  by_cases h : sp.toNat < 2
  · rw [hfault h]
    exact .fault (.inl h)
  · rw [hok (Nat.le_of_not_lt h)]
    exact .next t

/-- What pops faults where the word would pass the end of memory and nowhere else (47 R341). -/
theorem nextOrStackFault_of_pop {sp : Word} {r : Result} {t : State} (hok : sp.toNat ≤ 0xFFFD → r = .next t)
    (hfault : 0xFFFD < sp.toNat → r = .fault (.raised (.stackFault sp))) : NextOrStackFault sp r := by
  by_cases h : 0xFFFD < sp.toNat
  · rw [hfault h]
    exact .fault (.inr h)
  · rw [hok (Nat.le_of_not_lt h)]
    exact .next t

theorem callTo_retire_outcome (s : State) (len : Word) (cost : Nat) (target : Word) :
    NextOrStackFault s.sp (callTo target (s.retire len cost)) :=
  nextOrStackFault_of_push (callTo_retire_ok · len cost target) (callTo_retire_fault · len cost target)

theorem retFrom_retire_outcome (s : State) (len : Word) (cost : Nat) :
    NextOrStackFault s.sp (retFrom (s.retire len cost)) :=
  nextOrStackFault_of_pop (retFrom_retire_ok · len cost) (retFrom_retire_fault · len cost)

theorem dispatchInterrupt_outcome (s : State) : NextOrStackFault s.sp (dispatchInterrupt s) :=
  nextOrStackFault_of_push dispatchInterrupt_ok dispatchInterrupt_fault

theorem exec_ofLd_outcome (dst src : Operand) (s : State) : NextOrStackFault s.sp (exec (ofLd dst src) s) := by
  cases dst with
  | reg dst =>
    cases src with
    | reg src => rw [exec_ofLd_reg_reg]; exact .next _
    | mHL => rw [exec_ofLd_reg_mHL]; exact .next _
  | mHL =>
    cases src with
    | reg src => rw [exec_ofLd_mHL_reg]; exact .next _
    | mHL => exact .next _

/-- An instruction answers a next state, or faults at an end of the stack's range (60 R403). -/
theorem exec_outcome {i : Instr} (hw : i.wellFormed = true) (s : State) : NextOrStackFault s.sp (exec i s) := by
  cases row_of i with
  | push q => rw [exec_ofPush]; exact nextOrStackFault_of_push (pushPair_ok · q) (pushPair_fault · q)
  | pop q => rw [exec_ofPop]; exact nextOrStackFault_of_pop (popPair_ok · q) (popPair_fault · q)
  | callIf cc nn => rw [exec_ofCall]; exact nextOrStackFault_ite (callTo_retire_outcome s 3 24 nn) (.next _)
  | retIf cc => rw [exec_ofRet]; exact nextOrStackFault_ite (retFrom_retire_outcome s 1 20) (.next _)
  | rst t => rw [exec_ofRst]; exact callTo_retire_outcome s 1 16 _
  | call_nn nn => exact callTo_retire_outcome s 3 24 nn
  | ret => exact retFrom_retire_outcome s 1 16
  | reti => exact nextOrStackFault_of_pop exec_reti_ok exec_reti_fault
  | unassigned i h => exact nomatch h.symm.trans hw
  -- the other rows have no fault
  | ld dst src => exact exec_ofLd_outcome dst src s
  | ldImm dst n =>
    cases dst with
    | reg dst => rw [exec_ofLdImm_reg]; exact .next _
    | mHL => exact .next _
  | inc o => rw [exec_ofInc]; exact .next _
  | dec o => rw [exec_ofDec]; exact .next _
  | alu op o => rw [exec_ofAlu]; exact .next _
  | aluImm op n => rw [exec_ofAluImm]; exact .next _
  | ldPair p nn => rw [exec_ofLdPair]; exact .next _
  | addHl p => rw [exec_ofAddHl]; exact .next _
  | incPair p => rw [exec_ofIncPair]; exact .next _
  | decPair p => rw [exec_ofDecPair]; exact .next _
  | jrIf cc e => rw [exec_ofJr, jrIf_eq]; exact .next _
  | jpIf cc nn => rw [exec_ofJp, jpIf_eq]; exact .next _
  | rot op o => rw [exec_ofRot]; exact .next _
  | bit b o => rw [exec_ofBit]; exact .next _
  | res b o => rw [exec_ofRes]; exact .next _
  | set b o => rw [exec_ofSet]; exact .next _
  | ei => exact nextOrStackFault_ite (.next _) (.next _)
  | _ => exact .next _

theorem exec_ne_refused (i : Instr) (s : State) (r : Refusal) : exec i s ≠ .refused r := by
  intro h
  cases hw : i.wellFormed with
  | true =>
    have hx := exec_outcome hw s
    rw [h] at hx
    exact nomatch hx
  | false =>
    obtain ⟨op, -, -, hx⟩ := exec_unassigned hw s
    exact nomatch h.symm.trans hx

/-! ### What a step can answer -/

/-- The outcomes of a step of a running core (60 R403, R404). -/
inductive StepOutcome (s : State) : Result → Prop where
  | next (t : State) : StepOutcome s (.next t)
  | decodeFault (h : memRead s s.pc ∈ illegalBytes) :
      StepOutcome s (.fault (.raised (.decodeFault (memRead s s.pc) s.pc)))
  | stackFault (h : s.sp.toNat < 2 ∨ 0xFFFD < s.sp.toNat) : StepOutcome s (.fault (.raised (.stackFault s.sp)))

theorem NextOrStackFault.stepOutcome {s : State} {r : Result} (h : NextOrStackFault s.sp r) : StepOutcome s r := by
  cases h with
  | next t => exact .next t
  | fault h => exact .stackFault h

theorem step_of_illegal {s : State} (hfetch : s.willFetch = true) (h : memRead s s.pc ∈ illegalBytes) :
    step s = .fault (.raised (.decodeFault (memRead s s.pc) s.pc)) := by
  obtain ⟨-, hexec⟩ := exec_decodeBytes_of_illFormed (decodeBytes_illegal h (memRead s (s.pc + 1#16))
    (memRead s (s.pc + 2#16))) { s with halted := false }
  rw [step_of_willFetch hfetch, wakeIfPending_of_willFetch hfetch, fetchInstr, hexec]

theorem step_outcome_of_willFetch {s : State} (hfetch : s.willFetch = true) : StepOutcome s (step s) := by
  by_cases h : memRead s s.pc ∈ illegalBytes
  · rw [step_of_illegal hfetch h]
    exact .decodeFault h
  · have hexec := exec_outcome (decodeBytes_wellFormed h (memRead s (s.pc + 1#16)) (memRead s (s.pc + 2#16)))
      { s with halted := false }
    rw [step_of_willFetch hfetch, wakeIfPending_of_willFetch hfetch, fetchInstr]
    generalize exec _ _ = r at hexec ⊢
    cases hexec with
    | next t => exact .next _
    | fault h => exact .stackFault h

theorem step_outcome {s : State} (hf : s.fault = none) (hs : s.stopped = false) : StepOutcome s (step s) := by
  by_cases htake : s.ime = true ∧ s.somePending = true
  · rw [step_eq_dispatchInterrupt hf hs htake.1 htake.2]
    exact (dispatchInterrupt_outcome { s with halted := false }).stepOutcome (s := s)
  · have hgate : s.ime = false ∨ s.somePending = false := by
      rwa [Decidable.not_and_iff_or_not, Bool.not_eq_true, Bool.not_eq_true] at htake
    obtain hfetch | hidle := willFetch_or_idle hf hs hgate
    · exact step_outcome_of_willFetch hfetch
    · rw [hidle]
      exact .next _

theorem step_ne_refused (s : State) (r : Refusal) : step s ≠ .refused r := by
  intro h
  cases hf : s.fault with
  | some q => exact nomatch h.symm.trans (step_of_fault hf)
  | none =>
    cases hs : s.stopped with
    | true => exact nomatch h.symm.trans (step_of_stopped hf hs)
    | false =>
      have hx := step_outcome hf hs
      rw [h] at hx
      exact nomatch hx

/-! ### The statements -/

/-- Settles O5: a row that is no instruction faults with its first byte; an instruction faults only with sp. -/
theorem illegalByteIsDecodeFault : Obligations.IllegalByteIsDecodeFault := by
  refine ⟨fun b0 b1 b2 s h => ?_, fun b0 b1 b2 s h => ?_, fun s hfetch h => ?_,
    fun s => ⟨rfl, rfl, rfl, rfl, rfl, rfl, rfl, rfl, rfl, rfl, rfl⟩⟩
  · have hw := decodeBytes_illegal h b1 b2
    exact ⟨hw, (exec_decodeBytes_of_illFormed hw s).2⟩
  · have hw := decodeBytes_wellFormed h b1 b2
    refine ⟨hw, fun op pc hx => ?_⟩
    have hout := exec_outcome hw s
    rw [hx] at hout
    exact nomatch hout
  · exact hostStep_of_raised (step_of_illegal hfetch h)

/-- Settles O10: the cases of `step_outcome`. -/
theorem stepFaultsAreTheTwo : Obligations.StepFaultsAreTheTwo := by
  refine ⟨fun s f hf hs hstep => ?_, step_ne_refused, exec_ne_refused⟩
  have hout := step_outcome hf hs
  rw [hstep] at hout
  cases hout with
  | decodeFault h => exact ⟨.inl ⟨h, rfl⟩, _, rfl, hostStep_of_raised hstep⟩
  | stackFault h => exact ⟨.inr ⟨h, rfl⟩, _, rfl, hostStep_of_raised hstep⟩

end Sys2Proof.Machine
end

section
/-!
PROOF. O33: the system reset of 70 R470. It drops every listed byte below cartridge RAM, and no other.
-/
namespace Sys2Proof.Machine

/-- After a system reset a key below cartridge RAM reads as at power-on, every other as before. -/
theorem Memory.read_keepCartridge (m : Memory) (k : Nat) :
    m.keepCartridge.read k = if k < cartRamBase then Memory.unlisted k else m.read k := by
  induction m with
  | nil => exact (ite_self _).symm
  | cons c rest ih =>
    obtain ⟨j, v⟩ := c
    unfold Memory.keepCartridge
    by_cases hj : j < cartRamBase
    · rw [if_pos hj, ih, Memory.read]
      split
      · rfl
      · rw [if_neg (by omega)]
    · rw [if_neg hj, Memory.read, ih, Memory.read]
      split
      · rw [if_neg (by omega)]
      · rfl

theorem cellByte_systemReset_below {x : Loc} (s : State) (h : x.key < cartRamBase) :
    cellByte (systemReset s) x = Memory.unlisted x.key := (s.mem.read_keepCartridge x.key).trans (if_pos h)

theorem cellByte_systemReset_ram {x : Loc} (s : State) (h : x.key < ioBase) :
    cellByte (systemReset s) x = 0xFF#8 := by
  have hio : ioBase < cartRamBase := by decide
  rw [cellByte_systemReset_below s (by omega), Memory.unlisted, if_pos h]

theorem cellByte_systemReset_io (s : State) (off : BitVec 7) : cellByte (systemReset s) (.io off) = 0x00#8 := by
  have hkey : ioBase ≤ (Loc.io off).key ∧ (Loc.io off).key < cartRamBase := by
    simp only [Loc.key, ioBase, cartRamBase]
    omega
  rw [cellByte_systemReset_below s hkey.2, Memory.unlisted, if_neg (by omega)]

theorem cellByte_systemReset_cartridge {x : Loc} (s : State) (h : cartRamBase ≤ x.key) :
    cellByte (systemReset s) x = cellByte s x := (s.mem.read_keepCartridge x.key).trans (if_neg (by omega))

theorem memRead_romFixed {a : Word} (s : State) (h : a.toNat < 0x4000) :
    memRead s a = romByte s (fixedBank s.mbc) a.toNat := by
  rw [memRead, busTarget_romFixed h]
  rfl

theorem romByte_systemReset (s : State) (bank off : Nat) : romByte (systemReset s) bank off = romByte s bank off := by
  cases h : romIndex s.cart bank off with
  | none => rw [romByte_of_none h, romByte_of_none (s := systemReset s) h]
  | some j =>
    rw [romByte_of_some h, romByte_of_some (s := systemReset s) h]
    exact cellByte_systemReset_cartridge s (by simp only [Loc.key, cartRamBase, romBase]; omega)

@[simp] theorem fixedBank_systemReset (m : Mbc) : fixedBank m.systemReset = 0 := by cases m <;> rfl

/-- Settles O33: registers and latches by evaluation, each byte by where its key stands. -/
theorem systemResetKeepsCartridge : Obligations.SystemResetKeepsCartridge := by
  intro s
  refine ⟨rfl, ?mbc, fun x => ?cells, ?rom, rfl⟩
  case mbc =>
    show s.mbc.systemReset = _
    cases s.mbc <;> rfl
  case cells =>
    cases x with
    | vram | wram | oam | hram => exact cellByte_systemReset_ram s (by simp only [Loc.key, ioBase]; omega)
    | io off => exact cellByte_systemReset_io s off
    | cartRam | rom =>
      exact cellByte_systemReset_cartridge s (by simp only [Loc.key, cartRamBase, romBase]; omega)
  case rom =>
    rw [memRead_romFixed _ (by decide), romByte_systemReset]
    exact congrArg (romByte s · 0) (fixedBank_systemReset s.mbc)

end Sys2Proof.Machine
end

section
/-!
PROOF. O16, O17, O21: the dispatcher region by region, what a read and a write of each region are, and the I/O page.
-/
namespace Sys2Proof.Machine

/-! ### Offsets and stored bits -/

/-- The low bits of an address are its distance from the base of a buffer that lies at a multiple of its size. -/
theorem setWidth_eq_ofNat_sub {w base : Nat} {a : Word} (h : base ≤ a.toNat) (hd : 2 ^ w ∣ base) :
    a.setWidth w = BitVec.ofNat w (a.toNat - base) := by
  obtain ⟨k, rfl⟩ := hd
  apply BitVec.eq_of_toNat_eq
  rw [BitVec.toNat_setWidth, BitVec.toNat_ofNat, Nat.sub_mul_mod h]

theorem setWidth_eq_ofNat_mod (w : Nat) (b : Byte) : b.setWidth w = BitVec.ofNat w (b.toNat % 2 ^ w) := by
  apply BitVec.eq_of_toNat_eq
  rw [BitVec.toNat_setWidth, BitVec.toNat_ofNat, Nat.mod_mod]

/-- What SVBK stores, over the natural numbers (spec 20 R86). -/
theorem svbkOf_eq (b : Byte) : svbkOf b = if b.toNat % 8 = 0 then 1#3 else BitVec.ofNat 3 b.toNat := by
  have hzero : b.setWidth 3 = 0#3 ↔ b.toNat % 8 = 0 := by
    rw [← BitVec.toNat_inj, BitVec.toNat_setWidth]
    rfl
  unfold svbkOf
  simp only [hzero, BitVec.ofNat_toNat]

/-! ### A read and a write, by what the address reaches -/

section
variable {s : State} {a : Word} (b : Byte)

theorem access_romFixed (h : a.toNat < 0x4000) :
    memRead s a = mbcReadRomFixed s a ∧ memWrite s a b = { s with mbc := mbcWriteRomFixed s.mbc a b } := by
  simp only [memRead, memWrite, busTarget_romFixed h, and_self]

theorem access_romSwitchable (h : 0x4000 ≤ a.toNat) (h' : a.toNat < 0x8000) :
    memRead s a = mbcReadRomSwitchable s a ∧
      memWrite s a b = { s with mbc := mbcWriteRomSwitchable s.cart s.mbc a b } := by
  simp only [memRead, memWrite, busTarget_romSwitchable h h', and_self]

theorem access_cartRam (h : 0xA000 ≤ a.toNat) (h' : a.toNat < 0xC000) :
    memRead s a = mbcReadRam s a ∧ memWrite s a b = mbcWriteRam s a b := by
  simp only [memRead, memWrite, busTarget_cartRam h h', and_self]

theorem access_cell {x : Loc} (h : busTarget s a = .cell x) :
    memRead s a = cellByte s x ∧ memWrite s a b = s.poke x b := by
  rw [memRead, memWrite, h]
  exact ⟨rfl, rfl⟩

theorem access_nothing (h : busTarget s a = .nothing) : memRead s a = 0xFF#8 ∧ memWrite s a b = s := by
  simp only [memRead, memWrite, h, and_self]

theorem access_ifReg (h : busTarget s a = .ifReg) :
    memRead s a = s.ifReg.setWidth 8 ||| 0xE0#8 ∧ memWrite s a b = { s with ifReg := b.setWidth 5 } := by
  simp only [memRead, memWrite, h, and_self]

theorem access_vbk (h : busTarget s a = .vbk) :
    memRead s a = s.vbk.setWidth 8 ∧ memWrite s a b = { s with vbk := b.setWidth 1 } := by
  simp only [memRead, memWrite, h, and_self]

theorem access_svbk (h : busTarget s a = .svbk) :
    memRead s a = s.svbk.setWidth 8 ∧ memWrite s a b = { s with svbk := svbkOf b } := by
  simp only [memRead, memWrite, h, and_self]

theorem access_ieReg (h : busTarget s a = .ieReg) :
    memRead s a = s.ieReg ∧ memWrite s a b = { s with ieReg := b } := by
  simp only [memRead, memWrite, h, and_self]

end

/-! ### The cell of an address, by its offset in the buffer -/

section
variable (s : State) {a : Word}

theorem busTarget_vram_offset (h : 0x8000 ≤ a.toNat) (h' : a.toNat < 0xA000) :
    busTarget s a = .cell (.vram (vramBank s) (BitVec.ofNat 13 (a.toNat - 0x8000))) := by
  rw [busTarget_vram h h', setWidth_eq_ofNat_sub h (by decide)]

theorem busTarget_wramFixed_offset (h : 0xC000 ≤ a.toNat) (h' : a.toNat < 0xD000) :
    busTarget s a = .cell (.wram 0#3 (BitVec.ofNat 12 (a.toNat - 0xC000))) := by
  rw [busTarget_wram h (by omega), wramTarget, if_pos h', setWidth_eq_ofNat_sub h (by decide)]

theorem busTarget_wramSwitchable_offset (h : 0xD000 ≤ a.toNat) (h' : a.toNat < 0xE000) :
    busTarget s a = .cell (.wram (wramBank s) (BitVec.ofNat 12 (a.toNat - 0xD000))) := by
  rw [busTarget_wram (by omega) h', wramTarget, if_neg (by omega), setWidth_eq_ofNat_sub h (by decide)]

theorem busTarget_oam_offset (h : 0xFE00 ≤ a.toNat) (h' : a.toNat < 0xFEA0) :
    busTarget s a = .cell (.oam (BitVec.ofNat 8 (a.toNat - 0xFE00))) := by
  rw [busTarget_oam h h', setWidth_eq_ofNat_sub h (by decide)]

theorem busTarget_hram_offset (h : 0xFF80 ≤ a.toNat) (h' : a.toNat < 0xFFFF) :
    busTarget s a = .cell (.hram (BitVec.ofNat 7 (a.toNat - 0xFF80))) := by
  rw [busTarget_hram h h', setWidth_eq_ofNat_sub h (by decide)]

/-- An echo address reaches the cell of the address 0x2000 lower (spec 20 R68). -/
theorem busTarget_echo_eq (h : 0xE000 ≤ a.toNat) (h' : a.toNat < 0xFE00) :
    ∃ x, busTarget s a = .cell x ∧ busTarget s (BitVec.ofNat 16 (a.toNat - 0x2000)) = .cell x := by
  have hlow : a - 0x2000#16 = BitVec.ofNat 16 (a.toNat - 0x2000) := by bv_omega
  have hn : (BitVec.ofNat 16 (a.toNat - 0x2000)).toNat = a.toNat - 0x2000 := by
    rw [BitVec.toNat_ofNat]
    omega
  rw [busTarget_echo h h', hlow, busTarget_wram (by omega) (by omega), wramTarget]
  split <;> exact ⟨_, rfl, rfl⟩

theorem access_echo (b : Byte) (h : 0xE000 ≤ a.toNat) (h' : a.toNat < 0xFE00) :
    memRead s a = memRead s (BitVec.ofNat 16 (a.toNat - 0x2000)) ∧
      memWrite s a b = memWrite s (BitVec.ofNat 16 (a.toNat - 0x2000)) b := by
  obtain ⟨x, hx, hlow⟩ := busTarget_echo_eq s h h'
  obtain ⟨hr, hw⟩ := access_cell b hx
  obtain ⟨hr', hw'⟩ := access_cell b hlow
  exact ⟨hr.trans hr'.symm, hw.trans hw'.symm⟩

/-- What an address of the I/O page reaches, over NAMED (spec 20 R84). -/
theorem busTarget_io_named (h : 0xFF00 ≤ a.toNat) (h' : a.toNat < 0xFF80) : busTarget s a =
    if a.toNat - 0xFF00 ∉ namedIo then .nothing
    else if a.toNat = 0xFF0F then .ifReg
    else if a.toNat = 0xFF4F then .vbk
    else if a.toNat = 0xFF70 then .svbk
    else .cell (.io (BitVec.ofNat 7 (a.toNat - 0xFF00))) := by
  have offset (k : Nat) : a.toNat - 0xFF00 = k ↔ a.toNat = 0xFF00 + k := by omega
  rw [busTarget_io h h', ioTarget_spec ⟨a.toNat - 0xFF00, by omega⟩]
  simp only [offset]

end

theorem busTarget_ifAddress (s : State) : busTarget s 0xFF0F#16 = .ifReg := by
  rw [busTarget_io_named s (by decide) (by decide), if_neg (by decide), if_pos (by decide)]

theorem busTarget_vbkAddress (s : State) : busTarget s 0xFF4F#16 = .vbk := by
  rw [busTarget_io_named s (by decide) (by decide), if_neg (by decide), if_neg (by decide), if_pos (by decide)]

theorem busTarget_svbkAddress (s : State) : busTarget s 0xFF70#16 = .svbk := by
  rw [busTarget_io_named s (by decide) (by decide), if_neg (by decide), if_neg (by decide), if_neg (by decide),
    if_pos (by decide)]

/-! ### The statements -/

/-- A read and a write described by one test: the branch of the table is taken for both. -/
theorem both_ite {α β : Type} {c : Prop} [Decidable c] {r r₁ r₂ : α} {w w₁ w₂ : β} (hpos : c → r = r₁ ∧ w = w₁)
    (hneg : ¬c → r = r₂ ∧ w = w₂) : (r = if c then r₁ else r₂) ∧ (w = if c then w₁ else w₂) := by
  by_cases h : c
  · simpa only [if_pos h] using hpos h
  · simpa only [if_neg h] using hneg h

/-- The rows of the I/O page (spec 20 R84 to R87). -/
theorem access_io (s : State) {a : Word} (b : Byte) (h : 0xFF00 ≤ a.toNat) (h' : a.toNat < 0xFF80) :
    (memRead s a =
      if a.toNat - 0xFF00 ∉ namedIo then 0xFF#8
      else if a.toNat = 0xFF0F then s.ifReg.setWidth 8 ||| 0xE0#8
      else if a.toNat = 0xFF4F then s.vbk.setWidth 8
      else if a.toNat = 0xFF70 then s.svbk.setWidth 8
      else cellByte s (.io (BitVec.ofNat 7 (a.toNat - 0xFF00)))) ∧
    (memWrite s a b =
      if a.toNat - 0xFF00 ∉ namedIo then s
      else if a.toNat = 0xFF0F then { s with ifReg := b.setWidth 5 }
      else if a.toNat = 0xFF4F then { s with vbk := b.setWidth 1 }
      else if a.toNat = 0xFF70 then { s with svbk := if b.toNat % 8 = 0 then 1#3 else BitVec.ofNat 3 b.toNat }
      else s.poke (.io (BitVec.ofNat 7 (a.toNat - 0xFF00))) b) := by
  have ht := busTarget_io_named s h h'
  refine both_ite (fun hc => ?_) fun hnamed => both_ite (fun hc => ?_) fun hif => both_ite (fun hc => ?_) fun hvbk =>
    both_ite (fun hc => ?_) fun hsvbk => ?_
  · exact access_nothing b (ht.trans (if_pos hc))
  · exact access_ifReg b (by rw [ht, if_neg hnamed, if_pos hc])
  · exact access_vbk b (by rw [ht, if_neg hnamed, if_neg hif, if_pos hc])
  · rw [← svbkOf_eq]
    exact access_svbk b (by rw [ht, if_neg hnamed, if_neg hif, if_neg hvbk, if_pos hc])
  · exact access_cell b (by rw [ht, if_neg hnamed, if_neg hif, if_neg hvbk, if_neg hsvbk])

/-- Settles O16: the rows of the two tables in order, each by the lemma of its region. -/
theorem busDispatch : Obligations.BusDispatch := by
  intro s a b
  dsimp only
  refine both_ite (access_romFixed b) fun h1 => both_ite (access_romSwitchable b (by omega)) fun h2 =>
    both_ite (fun h => access_cell b (busTarget_vram_offset s (by omega) h)) fun h3 =>
    both_ite (access_cartRam b (by omega)) fun h4 =>
    both_ite (fun h => access_cell b (busTarget_wramFixed_offset s (by omega) h)) fun h5 =>
    both_ite (fun h => access_cell b (busTarget_wramSwitchable_offset s (by omega) h)) fun h6 =>
    both_ite (access_echo s b (by omega)) fun h7 =>
    both_ite (fun h => access_cell b (busTarget_oam_offset s (by omega) h)) fun h8 =>
    both_ite (fun h => access_nothing b (busTarget_unusable (by omega) h)) fun h9 =>
    both_ite (access_io s b (by omega)) fun h10 =>
    both_ite (fun h => access_cell b (busTarget_hram_offset s (by omega) h)) fun h11 =>
    access_ieReg b (busTarget_ie (by omega))

theorem ifByte_toNat : ∀ r : BitVec 5, (r.setWidth 8 ||| 0xE0#8).toNat = 0xE0 + r.toNat := by decide

theorem namedIo_lt : ∀ i ∈ namedIo, i < 0x80 := by decide

/-- Settles O17: the rows of the I/O page; a bank takes effect because the dispatcher reads the register. -/
theorem ioPageRegisters : Obligations.IoPageRegisters := by
  have io_toNat {i : Nat} (hi : i < 0x80) : (BitVec.ofNat 16 (0xFF00 + i)).toNat = 0xFF00 + i := by
    rw [BitVec.toNat_ofNat]
    omega
  refine ⟨fun s i b hi hn => ?unnamed, fun s i b hw hn hif hvbk hsvbk => ?plain, fun s b => ?registers,
    fun s b off hcgb => ?wramBank, fun s b off hcgb => ?vramBank⟩
  case unnamed =>
    have ha := io_toNat hi
    refine access_nothing b ?_
    rw [busTarget_io_named s (by omega) (by omega), ha, Nat.add_sub_cancel_left, if_pos hn]
  case plain =>
    have hi := namedIo_lt i hn
    have ha := io_toNat hi
    have hcell (t : State) : busTarget t (BitVec.ofNat 16 (0xFF00 + i)) = .cell (.io (BitVec.ofNat 7 i)) := by
      rw [busTarget_io_named t (by omega) (by omega), ha, Nat.add_sub_cancel_left, if_neg (not_not.mpr hn),
        if_neg (by omega), if_neg (by omega), if_neg (by omega)]
    obtain ⟨hr, hwr⟩ := access_cell b (hcell s)
    exact ⟨hr, hwr, by rw [hwr, (access_cell b (hcell _)).1, cellByte_poke hw, if_pos rfl]⟩
  case registers =>
    obtain ⟨hif, hif'⟩ := access_ifReg b (busTarget_ifAddress s)
    obtain ⟨hvbk, hvbk'⟩ := access_vbk b (busTarget_vbkAddress s)
    obtain ⟨hsvbk, hsvbk'⟩ := access_svbk b (busTarget_svbkAddress s)
    refine ⟨?_, ?_, ?_, ?_, ?_, ?_⟩
    · rw [hif, ifByte_toNat]
    · rw [hif', setWidth_eq_ofNat_mod]
      rfl
    · rw [hvbk, BitVec.toNat_setWidth_of_le (by decide)]
    · rw [hvbk', setWidth_eq_ofNat_mod]
      rfl
    · rw [hsvbk, BitVec.toNat_setWidth_of_le (by decide)]
    · rw [hsvbk', svbkOf_eq]
      simp only [show (8 : Nat) = 2 ^ 3 from rfl, ofNat_mod]
  case wramBank =>
    have ha : (0xD000#16 + off.setWidth 16).toNat = 0xD000 + off.toNat := by bv_omega
    have hbank : wramBank (memWrite s 0xFF70#16 b) = svbkOf b := if_pos hcgb
    rw [(access_cell b (busTarget_wramSwitchable_offset _ (by omega) (by omega))).1, ha, hbank, svbkOf_eq,
      Nat.add_sub_cancel_left, BitVec.ofNat_toNat 12, BitVec.setWidth_eq, (access_svbk b (busTarget_svbkAddress s)).2]
    rfl
  case vramBank =>
    have ha : (0x8000#16 + off.setWidth 16).toNat = 0x8000 + off.toNat := by bv_omega
    have hbank : vramBank (memWrite s 0xFF4F#16 b) = BitVec.ofNat 1 b.toNat :=
      (if_pos hcgb).trans (BitVec.ofNat_toNat 1 b).symm
    rw [(access_cell b (busTarget_vram_offset _ (by omega) (by omega))).1, ha, hbank,
      Nat.add_sub_cancel_left, BitVec.ofNat_toNat 13, BitVec.setWidth_eq, (access_vbk b (busTarget_vbkAddress s)).2]
    rfl

/-- The address of a host access in range, and none outside it (spec 20 R73). -/
theorem hostAddress_of_inRange {addr : Int} (h : 0 ≤ addr ∧ addr ≤ 0xFFFF) :
    hostAddress addr = some (BitVec.ofInt 16 addr) := if_pos h

theorem hostAddress_of_outside {addr : Int} (h : addr < 0 ∨ 0xFFFF < addr) : hostAddress addr = none :=
  if_neg (by omega)

/-- Settles O21: the two answers of the address check. -/
theorem hostAddressRange : Obligations.HostAddressRange := by
  refine fun s addr v => ⟨fun h => ?_, fun h => ?_⟩
  · simp only [busRead, busWrite, hostAddress_of_inRange h, and_self]
  · simp only [busRead, busWrite, hostAddress_of_outside h, State.record, and_self]

end Sys2Proof.Machine
end

section
/-!
PROOF. O19, O20: what a bus write leaves unchanged. A write to a cell is seen by the reads of that cell only; a write to
a register by the reads of that register and of the windows it steers.
-/
namespace Sys2Proof.Machine

/-- A bus write changes the storage and the registers of the bus only. -/
theorem memWrite_frame (s : State) (a : Word) (b : Byte) : memWrite s a b = { s with
    mem := (memWrite s a b).mem, mbc := (memWrite s a b).mbc, ifReg := (memWrite s a b).ifReg
    ieReg := (memWrite s a b).ieReg, svbk := (memWrite s a b).svbk, vbk := (memWrite s a b).vbk } := by
  rcases memWrite_cases s a b with ⟨-, hw⟩ | ⟨x, -, -, hw⟩ | ⟨-, m, hw, -⟩ | ⟨-, hw⟩ | ⟨-, hw⟩ | ⟨-, hw⟩ | ⟨-, hw⟩
  case inr.inl =>
    rw [hw]
    rfl
  all_goals rw [hw]

/-- Settles O19: each clause is the law of a write to one cell, or the frame of every write. -/
theorem writeFrame : Obligations.WriteFrame := by
  refine fun s a b hw => ⟨memWrite_mem_wf hw a b, fun x hx => cellByte_memWrite_other hw a b hx, fun hsome a' ha' => ?_,
    memWrite_frame s a b⟩
  obtain ⟨x, hx⟩ := Option.ne_none_iff_exists'.mp hsome
  rw [memWrite_of_storeCell b hx]
  exact memRead_poke_other hw x b a' (hx ▸ ha')

/-! ### Where each target lies -/

/-- What an address reaches, with where it lies: the rows of the dispatcher, read backwards (spec 20 R60, R84). -/
inductive Reaches (a : Word) : Target → Prop where
  | romFixed (h : a.toNat < 0x4000) : Reaches a .romFixed
  | romSwitchable (h : 0x4000 ≤ a.toNat) (h' : a.toNat < 0x8000) : Reaches a .romSwitchable
  | cartRam (h : 0xA000 ≤ a.toNat) (h' : a.toNat < 0xC000) : Reaches a .cartRam
  | cell (x : Loc) : Reaches a (.cell x)
  | nothing : Reaches a .nothing
  | ifReg (h : a = 0xFF0F#16) : Reaches a .ifReg
  | vbk (h : a = 0xFF4F#16) : Reaches a .vbk
  | svbk (h : a = 0xFF70#16) : Reaches a .svbk
  | ieReg (h : a = 0xFFFF#16) : Reaches a .ieReg

theorem reaches_ite {a : Word} {c : Prop} [Decidable c] {x y : Target} (hx : c → Reaches a x) (hy : ¬c → Reaches a y) :
    Reaches a (if c then x else y) := by
  by_cases h : c
  · rw [if_pos h]
    exact hx h
  · rw [if_neg h]
    exact hy h

theorem wramTarget_reaches (s : State) (a a' : Word) : Reaches a' (wramTarget s a) :=
  reaches_ite (fun _ => .cell _) fun _ => .cell _

theorem ioTarget_reaches {a : Word} (h : 0xFF00 ≤ a.toNat) : Reaches a (ioTarget (a.toNat - 0xFF00)) :=
  reaches_ite (fun _ => .ifReg (by bv_omega)) fun _ => reaches_ite (fun _ => .vbk (by bv_omega)) fun _ =>
    reaches_ite (fun _ => .svbk (by bv_omega)) fun _ => reaches_ite (fun _ => .cell _) fun _ => .nothing

theorem busTarget_reaches (s : State) (a : Word) : Reaches a (busTarget s a) :=
  reaches_ite .romFixed fun h1 => reaches_ite (.romSwitchable (by omega)) fun h2 => reaches_ite (fun _ => .cell _)
    fun h3 => reaches_ite (.cartRam (by omega)) fun h4 => reaches_ite (fun _ => wramTarget_reaches s _ a) fun h5 =>
    reaches_ite (fun _ => wramTarget_reaches s _ a) fun h6 => reaches_ite (fun _ => .cell _) fun h7 =>
    reaches_ite (fun _ => .nothing) fun h8 => reaches_ite (fun _ => ioTarget_reaches (by omega)) fun h9 =>
    reaches_ite (fun _ => .cell _) fun h10 => .ieReg (by bv_omega)

/-! ### A change of one register, and the reads that do not see it -/

/-- What an address reaches depends on the two bank registers only, on each in its own range (spec 20 R64, R66). -/
theorem busTarget_congr {s t : State} {a : Word}
    (hv : 0x8000 ≤ a.toNat → a.toNat < 0xA000 → vramBank t = vramBank s)
    (hw : (0xD000 ≤ a.toNat ∧ a.toNat < 0xE000) ∨ (0xF000 ≤ a.toNat ∧ a.toNat < 0xFE00) → wramBank t = wramBank s) :
    busTarget t a = busTarget s a := by
  have hwram (a' : Word) (ha' : 0xD000 ≤ a'.toNat → wramBank t = wramBank s) : wramTarget t a' = wramTarget s a' := by
    refine ite_congr rfl (fun _ => rfl) fun h => ?_
    rw [ha' (by omega)]
  have hecho (h : 0xE000 ≤ a.toNat) : (a - 0x2000#16).toNat = a.toNat - 0x2000 := by bv_omega
  refine ite_congr rfl (fun _ => rfl) fun h1 => ite_congr rfl (fun _ => rfl) fun h2 =>
    ite_congr rfl (fun h3 => ?vram) fun h3 => ite_congr rfl (fun _ => rfl) fun h4 =>
    ite_congr rfl (fun h5 => hwram a fun h => hw (.inl (by omega))) fun h5 =>
    ite_congr rfl (fun h6 => hwram _ fun h => hw (.inr ?echo)) fun h6 => rfl
  case vram => rw [hv (by omega) h3]
  case echo =>
    rw [hecho (by omega)] at h
    omega

/-- A read depends on the storage and the configuration, on the controller in its windows, and on each register at its
own address (spec 20 R60). -/
theorem memRead_congr {s t : State} {a : Word} (target : busTarget t a = busTarget s a) (mem : t.mem = s.mem)
    (cart : t.cart = s.cart)
    (mbc : a.toNat < 0x8000 ∨ (0xA000 ≤ a.toNat ∧ a.toNat < 0xC000) → t.mbc = s.mbc)
    (ifReg : a = 0xFF0F#16 → t.ifReg = s.ifReg) (vbk : a = 0xFF4F#16 → t.vbk = s.vbk)
    (svbk : a = 0xFF70#16 → t.svbk = s.svbk) (ieReg : a = 0xFFFF#16 → t.ieReg = s.ieReg) :
    memRead t a = memRead s a := by
  have romByte_eq (bank off : Nat) : romByte t bank off = romByte s bank off := by rw [romByte, romByte, mem, cart]
  have hreach := busTarget_reaches s a
  rw [memRead, memRead, target]
  generalize busTarget s a = x at hreach ⊢
  cases hreach with
  | romFixed h => simp only [mbcReadRomFixed, mbc (.inl (by omega)), romByte_eq]
  | romSwitchable h h' => simp only [mbcReadRomSwitchable, mbc (.inl h'), romByte_eq]
  | cartRam h h' => simp only [mbcReadRam, mbc (.inr ⟨h, h'⟩), mem, cart]
  | cell => simp only [mem]
  | nothing => rfl
  | ifReg h => simp only [ifReg h]
  | vbk h => simp only [vbk h]
  | svbk h => simp only [svbk h]
  | ieReg h => simp only [ieReg h]

section
variable {s : State} {a : Word}

theorem memRead_setMbc (m : Mbc) (h : (0x8000 ≤ a.toNat ∧ a.toNat < 0xA000) ∨ 0xC000 ≤ a.toNat) :
    memRead { s with mbc := m } a = memRead s a :=
  memRead_congr rfl rfl rfl (by omega) (fun _ => rfl) (fun _ => rfl) (fun _ => rfl) fun _ => rfl

theorem memRead_setIf (r : BitVec 5) (h : a ≠ 0xFF0F#16) : memRead { s with ifReg := r } a = memRead s a :=
  memRead_congr rfl rfl rfl (fun _ => rfl) (absurd · h) (fun _ => rfl) (fun _ => rfl) fun _ => rfl

theorem memRead_setIe (r : Byte) (h : a ≠ 0xFFFF#16) : memRead { s with ieReg := r } a = memRead s a :=
  memRead_congr rfl rfl rfl (fun _ => rfl) (fun _ => rfl) (fun _ => rfl) (fun _ => rfl) (absurd · h)

theorem memRead_setVbk (r : BitVec 1) (h : a ≠ 0xFF4F#16) (hv : ¬(0x8000 ≤ a.toNat ∧ a.toNat < 0xA000)) :
    memRead { s with vbk := r } a = memRead s a :=
  memRead_congr (busTarget_congr (fun hl hu => absurd ⟨hl, hu⟩ hv) fun _ => rfl) rfl rfl (fun _ => rfl) (fun _ => rfl)
    (absurd · h) (fun _ => rfl) fun _ => rfl

theorem memRead_setSvbk (r : BitVec 3) (h : a ≠ 0xFF70#16) (hw : ¬(0xD000 ≤ a.toNat ∧ a.toNat < 0xE000))
    (he : ¬(0xF000 ≤ a.toNat ∧ a.toNat < 0xFE00)) : memRead { s with svbk := r } a = memRead s a :=
  memRead_congr (busTarget_congr (fun _ _ => rfl) fun hr => absurd hr (not_or.mpr ⟨hw, he⟩)) rfl rfl (fun _ => rfl)
    (fun _ => rfl) (fun _ => rfl) (absurd · h) fun _ => rfl

end

/-! ### A clock register written is not seen by any read -/

@[simp] theorem fixedBank_mapClocks (f : Clocks → Clocks) (m : Mbc) : fixedBank (m.mapClocks f) = fixedBank m := by
  cases m <;> rfl

@[simp] theorem switchableBank_mapClocks (f : Clocks → Clocks) (m : Mbc) :
    switchableBank (m.mapClocks f) = switchableBank m := by cases m <;> rfl

@[simp] theorem mbcRamTarget_mapClocks (cart : Cartridge) (f : Clocks → Clocks) (m : Mbc) :
    mbcRamTarget cart (m.mapClocks f) = mbcRamTarget cart m := by cases m <;> rfl

/-- The registers a write reaches are the live ones and a read shows the latched ones (spec 20 R146, R147). -/
theorem memRead_writeClock (s : State) (r : ClockReg) (b : Byte) (a : Word) :
    memRead { s with mbc := mbcWriteClock s.mbc r b } a = memRead s a := by
  have hram : mbcReadRam { s with mbc := mbcWriteClock s.mbc r b } a = mbcReadRam s a := by
    have htarget : mbcRamTarget s.cart (mbcWriteClock s.mbc r b) = mbcRamTarget s.cart s.mbc :=
      mbcRamTarget_mapClocks _ _ _
    simp only [mbcReadRam, htarget, mbcReadClock_writeClock]
  have htarget : busTarget { s with mbc := mbcWriteClock s.mbc r b } a = busTarget s a := rfl
  rw [memRead, memRead, htarget]
  cases busTarget s a with
  | romFixed => exact congrArg (romByte s · a.toNat) (fixedBank_mapClocks _ s.mbc)
  | romSwitchable => exact congrArg (romByte s · (a.toNat - 0x4000)) (switchableBank_mapClocks _ s.mbc)
  | cartRam => exact hram
  | cell | nothing | ifReg | vbk | svbk | ieReg => rfl

/-! ### The statement -/

theorem memRead_memWrite_rom {s : State} {a a' : Word} (b : Byte) (h : a.toNat < 0x8000)
    (h' : (0x8000 ≤ a'.toNat ∧ a'.toNat < 0xA000) ∨ 0xC000 ≤ a'.toNat) :
    memRead (memWrite s a b) a' = memRead s a' := by
  by_cases hfixed : a.toNat < 0x4000
  · rw [(access_romFixed b hfixed).2, memRead_setMbc _ h']
  · rw [(access_romSwitchable b (by omega) h).2, memRead_setMbc _ h']

/-- A write that reaches no cell and no register of the bus is dropped, or reaches a clock register. -/
theorem memRead_memWrite_of_no_cell {s : State} {a : Word} (b : Byte) (h : 0x8000 ≤ a.toNat)
    (hcell : storeCell s a = none) (hreg : a ∉ [0xFF0F#16, 0xFF4F#16, 0xFF70#16, 0xFFFF#16]) (a' : Word) :
    memRead (memWrite s a b) a' = memRead s a' := by
  have hreach := busTarget_reaches s a
  generalize htarget : busTarget s a = t at hreach
  cases hreach with
  | romFixed | romSwitchable => omega
  | cartRam hl hu =>
    rw [(access_cartRam b hl hu).2]
    obtain ⟨-, hw⟩ | ⟨n, hn, -⟩ | ⟨r, -, hw⟩ := mbcWriteRam_cases s a b
    · rw [hw]
    · simp [storeCell, htarget, hn] at hcell
    · rw [hw, memRead_writeClock]
  | cell x => simp [storeCell, htarget] at hcell
  | nothing => rw [(access_nothing b htarget).2]
  | ifReg ha | vbk ha | svbk ha | ieReg ha => simp [ha] at hreg

/-- Settles O20: the write changes one register, and each read is of another address or window. -/
theorem registerWriteFrame : Obligations.RegisterWriteFrame := by
  refine fun s a a' b => ⟨memRead_memWrite_rom b, fun h hcell hreg => memRead_memWrite_of_no_cell b h hcell hreg a',
    ?interrupts, ?vbk, ?svbk⟩
  case interrupts =>
    rintro (rfl | rfl) ha'
    · rw [(access_ifReg b (busTarget_ifAddress s)).2, memRead_setIf _ ha']
    · rw [(access_ieReg b (busTarget_ie (by decide))).2, memRead_setIe _ ha']
  case vbk =>
    rintro rfl ha' hv
    rw [(access_vbk b (busTarget_vbkAddress s)).2, memRead_setVbk _ ha' hv]
  case svbk =>
    rintro rfl ha' hw he
    rw [(access_svbk b (busTarget_svbkAddress s)).2, memRead_setSvbk _ ha' hw he]

end Sys2Proof.Machine
end

section
/-!
PROOF. O23 to O27, O29: the bank controllers. A control write, the two ROM windows and the RAM window are described once
for every kind; each controller then says what its own latches do to them.
-/
namespace Sys2Proof.Machine

/-! ### ROM bytes -/

theorem romIndex_eq (cart : Cartridge) (bank off : Nat) : romIndex cart bank off =
    if bank % romBankCount cart * 0x4000 + off < cart.romLen then some (bank % romBankCount cart * 0x4000 + off)
    else none := rfl

/-- Settles O23: the bank count rounds up, so a reduced bank stands below the rounded length. -/
theorem bankReduction : Obligations.BankReduction := by
  intro s bank off hlen hoff
  dsimp only
  have hcount := romBankCount_eq s.cart
  have hlt : bank % romBankCount s.cart < romBankCount s.cart := Nat.mod_lt _ (by omega)
  refine ⟨by omega, by omega, by omega, by omega, ?_⟩
  split
  case isTrue h => exact romByte_of_some ((romIndex_eq _ _ _).trans (if_pos h))
  case isFalse h => exact romByte_of_none ((romIndex_eq _ _ _).trans (if_neg h))

/-! ### Control writes and the ROM windows -/

/-- A write to either ROM window, on the controller (spec 20 R62, R63). -/
def Mbc.writeControl (cart : Cartridge) (m : Mbc) (a : Word) (b : Byte) : Mbc :=
  if a.toNat < 0x4000 then mbcWriteRomFixed m a b else mbcWriteRomSwitchable cart m a b

section
variable {s : State} {a : Word}

theorem memWrite_control (b : Byte) (h : a.toNat < 0x8000) :
    memWrite s a b = { s with mbc := s.mbc.writeControl s.cart a b } := by
  unfold Mbc.writeControl
  split
  case isTrue hfixed => exact (access_romFixed b hfixed).2
  case isFalse hfixed => exact (access_romSwitchable b (by omega) h).2

theorem memRead_romSwitchable (h : 0x4000 ≤ a.toNat) (h' : a.toNat < 0x8000) :
    memRead s a = romByte s (switchableBank s.mbc) (a.toNat - 0x4000) :=
  (access_romSwitchable 0#8 h h').1

/-- A machine with the controller it has. -/
theorem State.withMbc_self {m : Mbc} (h : s.mbc = m) : { s with mbc := m } = s := by rw [← h]

/-! ### The cartridge RAM window -/

theorem access_ram_none (b : Byte) (h : 0xA000 ≤ a.toNat) (h' : a.toNat < 0xC000)
    (ht : mbcRamTarget s.cart s.mbc = .none) : memRead s a = 0xFF#8 ∧ memWrite s a b = s := by
  obtain ⟨hr, hw⟩ := access_cartRam (s := s) b h h'
  rw [hr, hw, mbcReadRam, mbcWriteRam, ht]
  exact ⟨rfl, rfl⟩

theorem access_ram_bank (b : Byte) (h : 0xA000 ≤ a.toNat) (h' : a.toNat < 0xC000) {n : BitVec 4}
    (ht : mbcRamTarget s.cart s.mbc = .bank n) :
    memRead s a = cellByte s (.cartRam n (BitVec.ofNat 13 (a.toNat - 0xA000))) ∧
      memWrite s a b = s.poke (.cartRam n (BitVec.ofNat 13 (a.toNat - 0xA000))) b := by
  obtain ⟨hr, hw⟩ := access_cartRam (s := s) b h h'
  rw [hr, hw, mbcReadRam, mbcWriteRam, ht, ← setWidth_eq_ofNat_sub h (by decide)]
  exact ⟨rfl, rfl⟩

theorem access_ram_clock (b : Byte) (h : 0xA000 ≤ a.toNat) (h' : a.toNat < 0xC000) {r : ClockReg}
    (ht : mbcRamTarget s.cart s.mbc = .clock r) :
    memRead s a = mbcReadClock s.mbc r ∧ memWrite s a b = { s with mbc := mbcWriteClock s.mbc r b } := by
  obtain ⟨hr, hw⟩ := access_cartRam (s := s) b h h'
  rw [hr, hw, mbcReadRam, mbcWriteRam, ht]
  exact ⟨rfl, rfl⟩

end

theorem ramBankTarget_of_no_banks {cart : Cartridge} (h : cart.ramBankCount = 0) (n : Nat) :
    ramBankTarget cart n = .none := by rw [ramBankTarget, reduceRamBank, if_pos h]

theorem ramBankTarget_of_banks {cart : Cartridge} (h : cart.ramBankCount ≠ 0) (n : Nat) :
    ramBankTarget cart n = .bank (BitVec.ofNat 4 (n % cart.ramBankCount)) := by
  rw [ramBankTarget, reduceRamBank, if_neg h]

theorem clockOfSel_eq_none {sel : Byte} (h : sel.toNat < 8 ∨ 12 < sel.toNat) : clockOfSel sel = none := by
  unfold clockOfSel
  iterate 5 rw [if_neg (by bv_omega)]

/-- The select values of Mbc3 and Mbc30 that reach nothing (spec 20 R143). -/
theorem selTarget_eq_none {cart : Cartridge} {banks : Nat} {sel : Byte} (hb : banks ≤ sel.toNat)
    (h : sel.toNat < 8 ∨ 12 < sel.toNat ∨ cart.hasTimer = false) : selTarget cart banks sel = .none := by
  rw [selTarget, if_neg (by omega)]
  cases hc : clockOfSel sel with
  | none => rfl
  | some r =>
    have htimer : cart.hasTimer = false := by
      by_contra hne
      have hsel : sel.toNat < 8 ∨ 12 < sel.toNat := h.imp_right (·.resolve_right hne)
      rw [clockOfSel_eq_none hsel] at hc
      exact nomatch hc
    exact if_neg (by simp [htimer])

theorem selTarget_bank {cart : Cartridge} {banks : Nat} {sel : Byte} (h : sel.toNat < banks) :
    selTarget cart banks sel = ramBankTarget cart sel.toNat := if_pos h

theorem selTarget_clock {cart : Cartridge} {banks : Nat} {sel : Byte} {r : ClockReg} (hb : banks ≤ sel.toNat)
    (hr : clockOfSel sel = some r) (ht : cart.hasTimer = true) : selTarget cart banks sel = .clock r := by
  rw [selTarget, if_neg (by omega), hr]
  exact if_pos ht

/-! ### The RAM-enable gate -/

/-- The gate opens on a low nibble of 10 (spec 20 R112). -/
theorem ramGate_eq (b : Byte) : ramGate b = decide (b.toNat % 16 = 10) := by
  revert b
  decide

theorem ramEnabled_writeRomFixed_gate (m : Mbc) {a : Word} (b : Byte) (h : a.toNat < 0x2000) :
    (mbcWriteRomFixed m a b).ramEnabled = m.ramEnabled.map fun _ => decide (b.toNat % 16 = 10) := by
  rw [← ramGate_eq]
  cases m <;> simp [mbcWriteRomFixed, Mbc.ramEnabled, Mbc1.writeFixed, Mbc3.writeFixed, Mbc5.writeFixed, h]

theorem ramEnabled_writeRomFixed_other (m : Mbc) {a : Word} (b : Byte) (h : 0x2000 ≤ a.toNat) :
    (mbcWriteRomFixed m a b).ramEnabled = m.ramEnabled := by
  have hgate : ¬ a.toNat < 0x2000 := by omega
  cases m with
  | romOnly => rfl
  | mbc1 | mbc3 | mbc30 =>
    simp [mbcWriteRomFixed, Mbc.ramEnabled, Mbc1.writeFixed, Mbc3.writeFixed, hgate]
  | mbc5 l =>
    simp only [mbcWriteRomFixed, Mbc.ramEnabled, Mbc5.writeFixed, if_neg hgate]
    split <;> rfl

theorem ramEnabled_writeRomSwitchable (cart : Cartridge) (m : Mbc) (a : Word) (b : Byte) :
    (mbcWriteRomSwitchable cart m a b).ramEnabled = m.ramEnabled := by
  cases m with
  | romOnly => rfl
  | mbc1 l =>
    simp only [mbcWriteRomSwitchable, Mbc.ramEnabled, Mbc1.writeSwitchable]
    split <;> rfl
  | mbc3 l | mbc30 l =>
    simp only [mbcWriteRomSwitchable, Mbc.ramEnabled, Mbc3.writeSwitchable]
    split
    · rfl
    · split <;> rfl
  | mbc5 l =>
    simp only [mbcWriteRomSwitchable, Mbc.ramEnabled, Mbc5.writeSwitchable]
    split
    · split <;> rfl
    · rfl

@[simp] theorem ramEnabled_mapClocks (f : Clocks → Clocks) (m : Mbc) : (m.mapClocks f).ramEnabled = m.ramEnabled := by
  cases m <;> rfl

theorem ramEnabled_memWrite_other {s : State} {a : Word} (b : Byte) (h : 0x2000 ≤ a.toNat) :
    (memWrite s a b).mbc.ramEnabled = s.mbc.ramEnabled := by
  rcases memWrite_cases s a b with ⟨-, hw⟩ | ⟨x, -, -, hw⟩ | ⟨-, m, hw, hm⟩ | ⟨-, hw⟩ | ⟨-, hw⟩ | ⟨-, hw⟩ | ⟨-, hw⟩
  case inr.inr.inl =>
    rw [hw]
    rcases hm with rfl | rfl | ⟨r, rfl⟩
    · exact ramEnabled_writeRomFixed_other _ b h
    · exact ramEnabled_writeRomSwitchable _ _ a b
    · exact ramEnabled_mapClocks _ _
  case inr.inl =>
    rw [hw]
    rfl
  all_goals rw [hw]

/-- A closed gate, or none, hides the window (spec 20 R112). -/
theorem mbcRamTarget_of_closed (cart : Cartridge) {m : Mbc} (h : m.ramEnabled ≠ some true) :
    mbcRamTarget cart m = .none := by
  cases m with
  | romOnly => rfl
  | mbc1 l | mbc3 l | mbc30 l | mbc5 l => exact if_neg fun hopen => h (congrArg some hopen)

/-- An open gate hides it too where what is selected does not exist. -/
theorem ite_eq_none {c : Prop} [Decidable c] {t : RamTarget} (h : t = .none) : (if c then t else .none) = .none := by
  rw [h, ite_self]

theorem ramEnabled_powerOn (r : RtcInit) (timer : Bool) (k : MbcKind) :
    (Mbc.powerOn r timer k).ramEnabled ≠ some true := by
  cases k <;> exact nofun

theorem ramEnabled_systemReset (m : Mbc) : m.systemReset.ramEnabled ≠ some true := by
  cases m <;> exact nofun

/-- Settles O24: who writes the gate, what a closed window does, and which targets do not exist. -/
theorem ramEnableGate : Obligations.RamEnableGate := by
  refine ⟨fun s a b h => ?_, fun s a b h => ramEnabled_memWrite_other b h, fun s a b h h' hnone => ?_,
    fun cart m h => mbcRamTarget_of_closed cart h,
    fun cart l h => ite_eq_none (ramBankTarget_of_no_banks h _),
    fun cart l h => ite_eq_none (ramBankTarget_of_no_banks h _),
    fun cart l => ⟨fun h hsel => ?_, fun h hsel => ?_, fun h hsel => ?_, fun h hsel => ?_, fun hsel => ?_⟩,
    ramEnabled_powerOn, fun s => ramEnabled_systemReset s.mbc⟩
  · rw [(access_romFixed b (by omega)).2]
    exact ramEnabled_writeRomFixed_gate s.mbc b h
  · exact access_ram_none b h h' (hnone.elim (mbcRamTarget_of_closed s.cart) id)
  · exact ite_eq_none ((selTarget_bank hsel).trans (ramBankTarget_of_no_banks h _))
  · exact ite_eq_none ((selTarget_bank hsel).trans (ramBankTarget_of_no_banks h _))
  · exact ⟨ite_eq_none (selTarget_eq_none (by omega) (.inr (.inr h))),
      ite_eq_none (selTarget_eq_none hsel (.inr (.inr h)))⟩
  · exact ite_eq_none (selTarget_eq_none h (.inl hsel))
  · exact ⟨ite_eq_none (selTarget_eq_none (by omega) (.inr (.inl hsel))),
      ite_eq_none (selTarget_eq_none (by omega) (.inr (.inl hsel)))⟩

/-- The window of a controller that shows RAM banks only, bank `n` of them behind the gate `opened` (spec 20 R135,
R154). -/
theorem access_ramBanks {s : State} {a : Word} (b : Byte) (h : 0xA000 ≤ a.toNat) (h' : a.toNat < 0xC000) {opened : Bool}
    {n : Nat} (ht : mbcRamTarget s.cart s.mbc = if opened then ramBankTarget s.cart n else .none) :
    (opened = false ∨ s.cart.ramBankCount = 0 → memRead s a = 0xFF#8 ∧ memWrite s a b = s) ∧
    (opened = true → s.cart.ramBankCount ≠ 0 →
      memRead s a =
        cellByte s (.cartRam (BitVec.ofNat 4 (n % s.cart.ramBankCount)) (BitVec.ofNat 13 (a.toNat - 0xA000))) ∧
      memWrite s a b =
        s.poke (.cartRam (BitVec.ofNat 4 (n % s.cart.ramBankCount)) (BitVec.ofNat 13 (a.toNat - 0xA000))) b) := by
  refine ⟨fun hno => access_ram_none b h h' (ht.trans ?_), fun hopen hbanks => access_ram_bank b h h' (ht.trans ?_)⟩
  · obtain hclosed | hbanks := hno
    · exact if_neg (by simp [hclosed])
    · exact ite_eq_none (ramBankTarget_of_no_banks hbanks _)
  · rw [if_pos hopen, ramBankTarget_of_banks hbanks]

/-! ### RomOnly -/

/-- Settles O25: no latch to write, banks 0 and 1, and no RAM target. -/
theorem romOnlyController : Obligations.RomOnlyController := by
  intro s a b hm
  have hwrite (h : a.toNat < 0x8000) : memWrite s a b = s := by
    rw [memWrite_control b h, hm, Mbc.writeControl]
    split <;> exact State.withMbc_self hm
  refine ⟨fun h => ⟨?_, hwrite (by omega)⟩, fun h h' => ⟨?_, hwrite h'⟩, fun h h' => access_ram_none b h h' ?_⟩
  · rw [memRead_romFixed s h, hm]
    rfl
  · rw [memRead_romSwitchable h h', hm]
    rfl
  · rw [hm]
    rfl

/-! ### Mbc1 -/

/-- A latch of fewer bits that takes 1 for 0 (spec 20 R132, R142). -/
theorem ite_setWidth_eq_zero {w : Nat} (b : Byte) (one : BitVec w) :
    (if b.setWidth w = 0#w then one else b.setWidth w) =
      if b.toNat % 2 ^ w = 0 then one else BitVec.ofNat w (b.toNat % 2 ^ w) := by
  have hzero : b.setWidth w = 0#w ↔ b.toNat % 2 ^ w = 0 := by
    rw [← BitVec.toNat_inj, BitVec.toNat_setWidth, BitVec.toNat_ofNat, Nat.zero_mod]
  simp only [hzero]
  rw [setWidth_eq_ofNat_mod]

theorem getLsbD_eq_decide (b : Byte) (k : Nat) : b.getLsbD k = decide (b.toNat / 2 ^ k % 2 = 1) := by
  rw [BitVec.getLsbD, Nat.testBit_eq_decide_div_mod_eq]

/-- The latches after a control write of Mbc1 (spec 20 R131 to R134). -/
theorem writeControl_mbc1 (cart : Cartridge) (l : Mbc1) (a : Word) (b : Byte) :
    (Mbc.mbc1 l).writeControl cart a b = .mbc1 (
      if a.toNat < 0x2000 then { l with ramEnable := decide (b.toNat % 16 = 10) }
      else if a.toNat < 0x4000 then { l with
          bank1 := if b.toNat % 32 = 0 then 1#5 else BitVec.ofNat 5 (b.toNat % 32) }
      else if a.toNat < 0x6000 then { l with bank2 := BitVec.ofNat 2 (b.toNat % 4) }
      else { l with mode := decide (b.toNat % 2 = 1) }) := by
  unfold Mbc.writeControl
  split
  case isTrue h4 =>
    simp only [mbcWriteRomFixed, Mbc1.writeFixed, ramGate_eq, ite_setWidth_eq_zero]
    rfl
  case isFalse h4 =>
    have h2 : ¬ a.toNat < 0x2000 := by omega
    have hmode : b.getLsbD 0 = decide (b.toNat % 2 = 1) := by rw [getLsbD_eq_decide, Nat.pow_zero, Nat.div_one]
    simp only [mbcWriteRomSwitchable, Mbc1.writeSwitchable, setWidth_eq_ofNat_mod 2 b, hmode, if_neg h2]
    rfl

/-- Settles O26: the latches, the two ROM banks, and the RAM bank they select. -/
theorem mbc1Controller : Obligations.Mbc1Controller := by
  intro s l a b hm l'
  have htarget : mbcRamTarget s.cart s.mbc =
      if l.ramEnable then ramBankTarget s.cart (if l.mode then l.bank2.toNat else 0) else .none := by rw [hm]; rfl
  refine ⟨fun h => ?_, fun h => ?_, fun h h' => ?_, fun h h' => (access_ramBanks b h h' htarget).1,
    fun h h' => (access_ramBanks b h h' htarget).2⟩
  · rw [memWrite_control b h, hm, writeControl_mbc1]
  · rw [memRead_romFixed s h, hm]
    rfl
  · rw [memRead_romSwitchable h h', hm]
    rfl

/-! ### Mbc3 and Mbc30 -/

/-- The controller with the latches `l`: Mbc30 where `wide`, else Mbc3 (spec 20 R149). -/
def Mbc3.bound (wide : Bool) (l : Mbc3) : Mbc := if wide then .mbc30 l else .mbc3 l

theorem Mbc3.bound_eq (wide : Bool) (l : Mbc3) : (if wide then Mbc.mbc30 else Mbc.mbc3) l = l.bound wide := by
  cases wide <;> rfl

@[simp] theorem Mbc3.bound_fixedBank (wide : Bool) (l : Mbc3) : fixedBank (l.bound wide) = 0 := by cases wide <;> rfl

@[simp] theorem Mbc3.bound_switchableBank (wide : Bool) (l : Mbc3) :
    switchableBank (l.bound wide) = l.romBank.toNat := by cases wide <;> rfl

theorem Mbc3.bound_ramTarget (cart : Cartridge) (wide : Bool) (l : Mbc3) : mbcRamTarget cart (l.bound wide) =
    if l.ramEnable then selTarget cart (if wide then 8 else 4) l.sel else .none := by cases wide <;> rfl

theorem Mbc3.bound_clocks (wide : Bool) (l : Mbc3) : (l.bound wide).clocks = l.clocks := by cases wide <;> rfl

theorem Mbc3.bound_writeClock (wide : Bool) (l : Mbc3) (r : ClockReg) (b : Byte) : mbcWriteClock (l.bound wide) r b =
    Mbc3.bound wide { l with clocks := l.clocks.map fun k => { k with rtc := k.rtc.writeReg r b } } := by
  cases wide <;> rfl

theorem writeControl_bound_fixed (cart : Cartridge) (wide : Bool) (l : Mbc3) {a : Word} (b : Byte)
    (h : a.toNat < 0x4000) : (l.bound wide).writeControl cart a b =
      (Mbc3.writeFixed (if wide then 0xFF#8 else 0x7F#8) l a b).bound wide := by
  cases wide <;> exact if_pos h

theorem writeControl_bound_switchable (cart : Cartridge) (wide : Bool) (l : Mbc3) {a : Word} (b : Byte)
    (h : ¬ a.toNat < 0x4000) : (l.bound wide).writeControl cart a b = (l.writeSwitchable a b).bound wide := by
  cases wide <;> exact if_neg h

/-- The ROM bank a write of `b` selects: all 8 bits on Mbc30, 7 on Mbc3 (spec 20 R142, R149). -/
def Mbc3.bankOf (wide : Bool) (b : Byte) : Nat := if wide then b.toNat else b.toNat % 128

theorem Mbc3.bankOf_eq (wide : Bool) (b : Byte) :
    b &&& (if wide then 0xFF#8 else 0x7F#8) = BitVec.ofNat 8 (Mbc3.bankOf wide b) := by
  revert b wide
  decide

theorem Mbc3.bankOf_eq_zero_iff (wide : Bool) (b : Byte) :
    BitVec.ofNat 8 (Mbc3.bankOf wide b) = 0#8 ↔ Mbc3.bankOf wide b = 0 := by
  revert b wide
  decide

/-- The latches after a control write of Mbc3 or Mbc30 (spec 20 R141 to R144). -/
theorem writeControl_bound (cart : Cartridge) (wide : Bool) (l : Mbc3) (a : Word) (b : Byte) :
    (l.bound wide).writeControl cart a b = Mbc3.bound wide (
      if a.toNat < 0x2000 then { l with ramEnable := decide (b.toNat % 16 = 10) }
      else if a.toNat < 0x4000 then { l with
          romBank := if Mbc3.bankOf wide b = 0 then 1#8 else BitVec.ofNat 8 (Mbc3.bankOf wide b) }
      else if a.toNat < 0x6000 then { l with sel := b }
      else { l with
          latchPrev := b
          clocks := if l.latchPrev = 0#8 ∧ b = 1#8 then l.clocks.map (fun r => { r with rtcLatched := r.rtc })
            else l.clocks }) := by
  by_cases h4 : a.toNat < 0x4000
  · rw [writeControl_bound_fixed cart wide l b h4]
    simp only [Mbc3.writeFixed, ramGate_eq, Mbc3.bankOf_eq, Mbc3.bankOf_eq_zero_iff, if_pos h4]
  · have h2 : ¬ a.toNat < 0x2000 := by omega
    rw [writeControl_bound_switchable cart wide l b h4, Mbc3.writeSwitchable]
    simp only [if_neg h2, if_neg h4]
    congr 2
    split <;> rfl

/-- The stored bits of DH (spec 10 R44). -/
theorem dayHighByte_toNat : ∀ dayHi halt carry : Bool, (bitAt carry 7 ||| bitAt halt 6 ||| bitAt dayHi 0).toNat =
    bitNat dayHi + 64 * bitNat halt + 128 * bitNat carry := by decide

/-- The five clock registers by select value: what a write stores and what a read gives (spec 20 R146, R147). -/
theorem clockOfSel_spec {sel : Byte} (h : 8 ≤ sel.toNat) (h' : sel.toNat ≤ 12) (b : Byte) :
    ∃ r, clockOfSel sel = some r ∧
      (∀ k : Clock, k.writeReg r b =
        if sel = 0x08#8 then { k with sec := BitVec.ofNat 6 (b.toNat % 64) }
        else if sel = 0x09#8 then { k with min := BitVec.ofNat 6 (b.toNat % 64) }
        else if sel = 0x0A#8 then { k with hour := BitVec.ofNat 5 (b.toNat % 32) }
        else if sel = 0x0B#8 then { k with dayLo := b }
        else { k with
            dayHi := decide (b.toNat % 2 = 1), halt := decide (b.toNat / 64 % 2 = 1)
            carry := decide (b.toNat / 128 = 1) }) ∧
      (∀ k : Clock, (k.readReg r).toNat =
        if sel = 0x08#8 then k.sec.toNat
        else if sel = 0x09#8 then k.min.toNat
        else if sel = 0x0A#8 then k.hour.toNat
        else if sel = 0x0B#8 then k.dayLo.toNat
        else bitNat k.dayHi + 64 * bitNat k.halt + 128 * bitNat k.carry) := by
  have hsel : sel = 0x08#8 ∨ sel = 0x09#8 ∨ sel = 0x0A#8 ∨ sel = 0x0B#8 ∨ sel = 0x0C#8 := by bv_omega
  obtain rfl | rfl | rfl | rfl | rfl := hsel
  · refine ⟨.s, rfl, fun k => ?_, fun k => BitVec.toNat_setWidth_of_le (by decide)⟩
    rw [Clock.writeReg, setWidth_eq_ofNat_mod]
    rfl
  · refine ⟨.m, rfl, fun k => ?_, fun k => BitVec.toNat_setWidth_of_le (by decide)⟩
    rw [Clock.writeReg, setWidth_eq_ofNat_mod]
    rfl
  · refine ⟨.h, rfl, fun k => ?_, fun k => BitVec.toNat_setWidth_of_le (by decide)⟩
    rw [Clock.writeReg, setWidth_eq_ofNat_mod]
    rfl
  · exact ⟨.dl, rfl, fun k => rfl, fun k => rfl⟩
  · refine ⟨.dh, rfl, fun k => ?_, fun k => ?_⟩
    · have hcarry : b.toNat / 128 % 2 = b.toNat / 128 := by omega
      simp only [Clock.writeReg, getLsbD_eq_decide, Nat.pow_zero, Nat.div_one, Nat.reducePow, hcarry]
      rfl
    · exact dayHighByte_toNat k.dayHi k.halt k.carry

/-- Settles O27: the latches, the ROM bank, and the bank or clock register that `sel` names. -/
theorem mbc3Controller : Obligations.Mbc3Controller := by
  intro wide s l a b hm bank banks l'
  replace hm : s.mbc = l.bound wide := hm
  have htarget : mbcRamTarget s.cart s.mbc = if l.ramEnable then selTarget s.cart banks l.sel else .none := by
    rw [hm, Mbc3.bound_ramTarget]
  have hopened (h : l.ramEnable = true) : mbcRamTarget s.cart s.mbc = selTarget s.cart banks l.sel :=
    htarget.trans (if_pos h)
  refine ⟨fun h => ?_, fun h => ?_, fun h h' => ?_, fun h h' =>
    ⟨fun hclosed => access_ram_none b h h' ?_, fun hopen hsel hbanks => access_ram_none b h h' ?_,
      fun hopen hsel hbanks => access_ram_bank b h h' ?_, fun hopen hsel hno => access_ram_none b h h' ?_,
      fun r hr hopen htimer hlow hhigh => ?_⟩⟩
  · rw [memWrite_control b h, hm, writeControl_bound, Mbc3.bound_eq]
    rfl
  · rw [memRead_romFixed s h, hm, Mbc3.bound_fixedBank]
  · rw [memRead_romSwitchable h h', hm, Mbc3.bound_switchableBank]
  · exact htarget.trans (if_neg (by simp [hclosed]))
  · rw [hopened hopen, selTarget_bank hsel, ramBankTarget_of_no_banks hbanks]
  · rw [hopened hopen, selTarget_bank hsel, ramBankTarget_of_banks hbanks]
  · rw [hopened hopen, selTarget_eq_none hsel hno]
  · obtain ⟨reg, hreg, hwrite, hread⟩ := clockOfSel_spec hlow hhigh b
    have hbanks : banks ≤ l.sel.toNat := by
      have : banks ≤ 8 := by cases wide <;> decide
      omega
    obtain ⟨hr', hw⟩ := access_ram_clock b h h' ((hopened hopen).trans (selTarget_clock hbanks hreg htimer))
    have hclocks : s.mbc.clocks = some r := by rw [hm, Mbc3.bound_clocks, hr]
    refine ⟨?_, ?_⟩
    · rw [hw, hm, Mbc3.bound_writeClock, hr, Option.map_some, hwrite, Mbc3.bound_eq]
    · rw [hr', mbcReadClock_of_clocks hclocks, hread]

/-! ### Mbc5 -/

/-- The latches after a control write of Mbc5 (spec 20 R151 to R154). -/
theorem writeControl_mbc5 (cart : Cartridge) (l : Mbc5) (a : Word) (b : Byte) :
    (Mbc.mbc5 l).writeControl cart a b = .mbc5 (
      if a.toNat < 0x2000 then { l with ramEnable := decide (b.toNat % 16 = 10) }
      else if a.toNat < 0x3000 then { l with romLo := b }
      else if a.toNat < 0x4000 then { l with romHi := BitVec.ofNat 1 (b.toNat % 2) }
      else if a.toNat < 0x6000 then
        (if cart.hasRumble then { l with
            ramBank := BitVec.ofNat 4 (b.toNat % 8), rumble := decide (b.toNat / 8 % 2 = 1) }
         else { l with ramBank := BitVec.ofNat 4 (b.toNat % 16) })
      else l) := by
  unfold Mbc.writeControl
  split
  case isTrue h4 =>
    simp only [mbcWriteRomFixed, Mbc5.writeFixed, ramGate_eq, setWidth_eq_ofNat_mod 1 b]
    rfl
  case isFalse h4 =>
    have h2 : ¬ a.toNat < 0x2000 := by omega
    have h3 : ¬ a.toNat < 0x3000 := by omega
    have hbank : (b &&& 0x07#8).setWidth 4 = BitVec.ofNat 4 (b.toNat % 8) := by
      have hmask : (0x07#8).toNat = 2 ^ 3 - 1 := rfl
      rw [setWidth_eq_ofNat_mod, BitVec.toNat_and, hmask, Nat.and_two_pow_sub_one_eq_mod, ofNat_mod]
    simp only [mbcWriteRomSwitchable, Mbc5.writeSwitchable, setWidth_eq_ofNat_mod 4 b, hbank, getLsbD_eq_decide,
      if_neg h2, if_neg h3]
    rfl

/-- Settles O29: the latches, the two ROM banks, and the RAM bank they select. -/
theorem mbc5Controller : Obligations.Mbc5Controller := by
  intro s l a b hm l'
  have htarget : mbcRamTarget s.cart s.mbc =
      if l.ramEnable then ramBankTarget s.cart l.ramBank.toNat else .none := by rw [hm]; rfl
  refine ⟨fun h => ?_, fun h => ?_, fun h h' => ?_, fun h h' => (access_ramBanks b h h' htarget).1,
    fun h h' => (access_ramBanks b h h' htarget).2⟩
  · rw [memWrite_control b h, hm, writeControl_mbc5]
  · rw [memRead_romFixed s h, hm]
    rfl
  · rw [memRead_romSwitchable h h', hm]
    rfl

end Sys2Proof.Machine
end

section
/-!
PROOF. O28: the clock of Mbc3, field by field over the natural numbers, and then as a count of seconds.
-/
namespace Sys2Proof.Machine

/-- A counter of `w` bits one higher. -/
theorem add_one_eq_ofNat {w : Nat} (x : BitVec w) : x + 1#w = BitVec.ofNat w ((x.toNat + 1) % 2 ^ w) := by
  apply BitVec.eq_of_toNat_eq
  simp

/-- A counter that does not reach its modulus. -/
theorem ofNat_succ_toNat {w m : Nat} {x : BitVec w} (h : x.toNat + 1 < m) (hm : m ≤ 2 ^ w) :
    (BitVec.ofNat w ((x.toNat + 1) % m)).toNat = x.toNat + 1 := by
  rw [BitVec.toNat_ofNat, Nat.mod_eq_of_lt h, Nat.mod_eq_of_lt (by omega)]

/-- The 9-bit day counter (spec 20 R148). -/
def Clock.day (k : Clock) : Nat := bitNat k.dayHi * 256 + k.dayLo.toNat

theorem Clock.day_lt (k : Clock) : k.day < 512 := by
  have hbit := bitNat_le_one k.dayHi
  unfold Clock.day
  omega

/-- The two parts of a day counter that was counted up, put together again: it wraps at 512. -/
theorem bitNat_dayHi_add_dayLo (d : Nat) :
    bitNat (decide (d / 256 % 2 = 1)) * 256 + (BitVec.ofNat 8 (d % 256)).toNat = d % 512 := by
  rw [BitVec.toNat_ofNat, Nat.mod_mod]
  by_cases hbit : d / 256 % 2 = 1
  · rw [decide_eq_true hbit, bitNat_true]
    omega
  · rw [decide_eq_false hbit, bitNat_false]
    omega

/-- The day counter's part of a tick: the carry is set at the wrap and never cleared (spec 20 R148). -/
theorem Clock.tickDay_eq (k : Clock) : k.tickDay = { k with
    dayLo := BitVec.ofNat 8 ((k.day + 1) % 256), dayHi := decide ((k.day + 1) / 256 % 2 = 1)
    carry := k.carry || decide (k.day + 1 = 512) } := by
  have hlt := k.day_lt
  show (if k.day + 1 = 512 then { k with dayLo := 0#8, dayHi := false, carry := true }
    else { k with dayLo := BitVec.ofNat 8 (k.day + 1), dayHi := decide (256 ≤ k.day + 1) }) = _
  split
  case isTrue h => simp [h]
  case isFalse h =>
    have hhi : (k.day + 1) / 256 % 2 = 1 ↔ 256 ≤ k.day + 1 := by omega
    simp only [h, hhi, ofNat_mod_256, decide_false, Bool.or_false]

/-- A tick, with the tests and the sums over the natural numbers. -/
theorem Clock.tick_eq (k : Clock) : k.tick =
    if k.halt then k
    else if k.sec.toNat ≠ 59 then { k with sec := BitVec.ofNat 6 ((k.sec.toNat + 1) % 64) }
    else if k.min.toNat ≠ 59 then { k with sec := 0#6, min := BitVec.ofNat 6 ((k.min.toNat + 1) % 64) }
    else if k.hour.toNat ≠ 23 then { k with sec := 0#6, min := 0#6, hour := BitVec.ofNat 5 ((k.hour.toNat + 1) % 32) }
    else { k with
        sec := 0#6, min := 0#6, hour := 0#5, dayLo := BitVec.ofNat 8 ((k.day + 1) % 256)
        dayHi := decide ((k.day + 1) / 256 % 2 = 1), carry := k.carry || decide (k.day + 1 = 512) } := by
  have hsec : k.sec + 1#6 ≠ 60#6 ↔ k.sec.toNat ≠ 59 := by bv_omega
  have hmin : k.min + 1#6 ≠ 60#6 ↔ k.min.toNat ≠ 59 := by bv_omega
  have hhour : k.hour + 1#5 ≠ 24#5 ↔ k.hour.toNat ≠ 23 := by bv_omega
  unfold Clock.tick
  simp only [hsec, hmin, hhour, Clock.tickDay_eq]
  simp only [add_one_eq_ofNat]
  rfl

/-! ### A second of a clock in range -/

theorem Clock.inRange_iff (k : Clock) :
    k.inRange = true ↔ k.sec.toNat < 60 ∧ k.min.toNat < 60 ∧ k.hour.toNat < 24 := by
  simp only [Clock.inRange, Bool.and_eq_true, decide_eq_true_eq, and_assoc]

theorem Clock.seconds_eq (k : Clock) :
    k.seconds = ((k.day * 24 + k.hour.toNat) * 60 + k.min.toNat) * 60 + k.sec.toNat := rfl

/-- What a tick keeps, and what it adds. -/
structure OneSecond (k k' : Clock) : Prop where
  seconds : k'.seconds = (k.seconds + 1) % (512 * 86400)
  inRange : k'.inRange = true
  halt : k'.halt = false
  carry : k'.carry = (k.carry || decide (k.seconds + 1 = 512 * 86400))

/-- A tick that does not reach the end of the last day: the carry stays. -/
theorem oneSecond_of_seconds {k k' : Clock} (hs : k'.seconds = k.seconds + 1) (hlt : k.seconds + 1 < 512 * 86400)
    (hr : k'.inRange = true) (hh : k'.halt = false) (hc : k'.carry = k.carry) : OneSecond k k' :=
  ⟨hs.trans (Nat.mod_eq_of_lt hlt).symm, hr, hh, by rw [hc, decide_eq_false hlt.ne, Bool.or_false]⟩

theorem Clock.tick_oneSecond {k : Clock} (hr : k.inRange = true) (hh : k.halt = false) : OneSecond k k.tick := by
  obtain ⟨hsec, hmin, hhour⟩ := k.inRange_iff.mp hr
  have hday := k.day_lt
  have hlt (h : k.sec.toNat ≠ 59 ∨ k.min.toNat ≠ 59 ∨ k.hour.toNat ≠ 23) : k.seconds + 1 < 512 * 86400 := by
    rw [k.seconds_eq]
    omega
  have zero_lt : (0#6).toNat < 60 := by decide
  have hnothalted : ¬ k.halt = true := by simp [hh]
  rw [k.tick_eq, if_neg hnothalted]
  split
  case isTrue h =>
    have hn := ofNat_succ_toNat (x := k.sec) (m := 64) (by omega) (by decide)
    refine oneSecond_of_seconds ?_ (hlt (.inl h)) ?_ hh rfl
    · rw [Clock.seconds_eq, Clock.seconds_eq, hn]
      rfl
    · rw [Clock.inRange_iff, hn]
      exact ⟨by omega, hmin, hhour⟩
  case isFalse hs =>
  split
  case isTrue h =>
    have hn := ofNat_succ_toNat (x := k.min) (m := 64) (by omega) (by decide)
    refine oneSecond_of_seconds ?_ (hlt (.inr (.inl h))) ?_ hh rfl
    · rw [Clock.seconds_eq, Clock.seconds_eq, hn]
      show ((k.day * 24 + k.hour.toNat) * 60 + (k.min.toNat + 1)) * 60 + 0 = _
      omega
    · rw [Clock.inRange_iff, hn]
      exact ⟨zero_lt, by omega, hhour⟩
  case isFalse hm =>
  split
  case isTrue h =>
    have hn := ofNat_succ_toNat (x := k.hour) (m := 32) (by omega) (by decide)
    refine oneSecond_of_seconds ?_ (hlt (.inr (.inr h))) ?_ hh rfl
    · rw [Clock.seconds_eq, Clock.seconds_eq, hn]
      show ((k.day * 24 + (k.hour.toNat + 1)) * 60 + 0) * 60 + 0 = _
      omega
    · rw [Clock.inRange_iff, hn]
      exact ⟨zero_lt, zero_lt, by omega⟩
  case isFalse ho =>
    have hseconds : k.seconds + 1 = (k.day + 1) * 86400 := by
      rw [k.seconds_eq]
      omega
    refine ⟨?_, rfl, hh, ?_⟩
    · rw [Clock.seconds_eq, Clock.day, bitNat_dayHi_add_dayLo, hseconds]
      show ((((k.day + 1) % 512) * 24 + 0) * 60 + 0) * 60 + 0 = _
      omega
    · have hwrap : k.day + 1 = 512 ↔ k.seconds + 1 = 512 * 86400 := by omega
      simp only [hwrap]

/-- Settles O28: the tick over the natural numbers, the second it adds, and the controllers that have a clock. -/
theorem rtcTickCountsOneSecond : Obligations.RtcTickCountsOneSecond := by
  refine ⟨Clock.tick_eq, fun k hr hh => ?_, fun s => ?_⟩
  · obtain ⟨seconds, inRange, halt, carry⟩ := Clock.tick_oneSecond hr hh
    exact ⟨seconds, inRange, halt, carry⟩
  · unfold rtcTick Mbc.rtcTick
    cases s.cart.hasTimer <;> cases s.mbc <;> rfl

end Sys2Proof.Machine
end

section
/-!
PROOF. O30: the three tests of a load, in their order.
-/
namespace Sys2Proof.Machine

/-- The type bytes that have a row (spec 20 R103). -/
theorem cartTypeOf_isSome : ∀ t : Byte, (cartTypeOf t).isSome = decide (t.toNat ∈
    [0x00, 0x01, 0x02, 0x03, 0x0F, 0x10, 0x11, 0x12, 0x13, 0x19, 0x1A, 0x1B, 0x1C, 0x1D, 0x1E]) := by decide

/-- The RAM size codes that have a row (spec 20 R104). -/
theorem ramBanksOf_isSome : ∀ code : Byte, (ramBanksOf code).isSome = decide (code.toNat < 6) := by decide

section
variable {p : Params}

theorem load_of_short (h : p.rom.size < 0x150) : load p = .refused (.refusedLoad (.unsupportedCartridge none)) :=
  if_pos h

theorem not_size_lt_minRomSize (h : 0x150 ≤ p.rom.size) : ¬ p.rom.size < minRomSize := Nat.not_lt.mpr h

theorem load_of_unknown_type (h : 0x150 ≤ p.rom.size) (ht : cartTypeOf (imageByte p.rom.cells 0x147) = none) :
    load p = .refused (.refusedLoad (.unsupportedCartridge (some (imageByte p.rom.cells 0x147)))) := by
  rw [load, if_neg (not_size_lt_minRomSize h), ht]

theorem load_of_unknown_ram (h : 0x150 ≤ p.rom.size) {row : CartType}
    (ht : cartTypeOf (imageByte p.rom.cells 0x147) = some row)
    (hr : ramBanksOf (imageByte p.rom.cells 0x149) = none) :
    load p = .refused (.refusedLoad (.unsupportedCartridge (some (imageByte p.rom.cells 0x149)))) := by
  simp only [load, if_neg (not_size_lt_minRomSize h), ht, hr]

theorem load_of_known (h : 0x150 ≤ p.rom.size) {row : CartType} {ramBanks : Nat}
    (ht : cartTypeOf (imageByte p.rom.cells 0x147) = some row)
    (hr : ramBanksOf (imageByte p.rom.cells 0x149) = some ramBanks) : load p = .next (loadedState p row ramBanks) := by
  simp only [load, if_neg (not_size_lt_minRomSize h), ht, hr]
  rfl

end

/-- Settles O30: each test of the load by its table. -/
theorem loadRefusesUnsupported : Obligations.LoadRefusesUnsupported := by
  intro p t r known
  have htype : (cartTypeOf t).isSome = true ↔ known := by rw [cartTypeOf_isSome, decide_eq_true_eq]
  have hram : (ramBanksOf r).isSome = true ↔ r.toNat < 6 := by rw [ramBanksOf_isSome, decide_eq_true_eq]
  refine ⟨load_of_short, fun h hunknown => load_of_unknown_type h ?_, fun h hknown hcode => ?_,
    fun h hknown hcode => ?_⟩
  · exact Option.not_isSome_iff_eq_none.mp (mt htype.mp hunknown)
  · obtain ⟨row, hrow⟩ := Option.isSome_iff_exists.mp (htype.mpr hknown)
    exact load_of_unknown_ram h hrow (Option.not_isSome_iff_eq_none.mp (mt hram.mp (Nat.not_lt.mpr hcode)))
  · obtain ⟨row, hrow⟩ := Option.isSome_iff_exists.mp (htype.mpr hknown)
    obtain ⟨ramBanks, hbanks⟩ := Option.isSome_iff_exists.mp (hram.mpr hcode)
    exact ⟨_, load_of_known h hrow hbanks⟩

end Sys2Proof.Machine
end

section
/-!
PROOF. O54: a push to plain storage is two raw writes, and a pop reads the two cells back.
-/
namespace Sys2Proof.Machine

/-! ### Addresses in a row reach different cells -/

/-- The cell, where the target is one, lies at a key of the parity of the address. -/
def KeyParity (a : Word) (t : Target) : Prop := ∀ x, t = .cell x → x.key % 2 = a.toNat % 2

theorem keyParity_cell {a : Word} {x : Loc} (h : x.key % 2 = a.toNat % 2) : KeyParity a (.cell x) := by
  rintro _ ⟨⟩
  exact h

theorem keyParity_ite {a : Word} {c : Prop} [Decidable c] {x y : Target} (hx : c → KeyParity a x)
    (hy : ¬c → KeyParity a y) : KeyParity a (if c then x else y) := by
  split
  case isTrue h => exact hx h
  case isFalse h => exact hy h

theorem wramTarget_keyParity (s : State) {a a' : Word} (h : a'.toNat % 2 = a.toNat % 2) :
    KeyParity a (wramTarget s a') := by
  refine keyParity_ite (fun _ => keyParity_cell ?_) fun _ => keyParity_cell ?_
  all_goals
    simp only [Loc.key, BitVec.toNat_setWidth]
    omega

theorem ioTarget_keyParity {a : Word} (h : 0xFF00 ≤ a.toNat) : KeyParity a (ioTarget (a.toNat - 0xFF00)) := by
  refine keyParity_ite (fun _ => ?ifReg) fun _ => keyParity_ite (fun _ => ?vbk) fun _ => keyParity_ite (fun _ => ?svbk)
    fun _ => keyParity_ite (fun _ => keyParity_cell ?plain) fun _ => ?unnamed
  case ifReg | vbk | svbk | unnamed => exact nofun
  case plain =>
    simp only [Loc.key, ioBase, BitVec.toNat_ofNat]
    omega

/-- Every buffer of the bus begins at an even address and an even key (spec 20 R60). -/
theorem busTarget_keyParity (s : State) (a : Word) : KeyParity a (busTarget s a) := by
  refine keyParity_ite (fun _ => ?romFixed) fun h1 => keyParity_ite (fun _ => ?romSwitchable) fun h2 =>
    keyParity_ite (fun _ => keyParity_cell ?vram) fun h3 => keyParity_ite (fun _ => ?cartRam) fun h4 =>
    keyParity_ite (fun _ => wramTarget_keyParity s rfl) fun h5 =>
    keyParity_ite (fun _ => wramTarget_keyParity s ?echo) fun h6 =>
    keyParity_ite (fun _ => keyParity_cell ?oam) fun h7 => keyParity_ite (fun _ => ?unusable) fun h8 =>
    keyParity_ite (fun _ => ioTarget_keyParity (by omega)) fun h9 =>
    keyParity_ite (fun _ => keyParity_cell ?hram) fun h10 =>
    ?ie
  case romFixed | romSwitchable | cartRam | unusable | ie => exact nofun
  case echo => bv_omega
  all_goals
    simp only [Loc.key, BitVec.toNat_setWidth]
    omega

/-- A write stores in a cell at a key of the parity of its address. -/
theorem key_mod_two_of_storeCell {s : State} {a : Word} {x : Loc} (h : storeCell s a = some x) :
    x.key % 2 = a.toNat % 2 := by
  unfold storeCell at h
  have hparity := busTarget_keyParity s a
  cases hb : busTarget s a <;> rw [hb] at h hparity <;> dsimp only at h
  case cartRam =>
    cases ht : mbcRamTarget s.cart s.mbc <;> rw [ht] at h <;> cases h
    simp only [Loc.key, cartRamBase, BitVec.toNat_setWidth]
    omega
  case cell y =>
    cases h
    exact hparity _ rfl
  all_goals exact nomatch h

/-- So two addresses in a row never reach one cell. -/
theorem storeCell_ne_of_succ {s : State} {a a' : Word} {x y : Loc} (hx : storeCell s a = some x)
    (hy : storeCell s a' = some y) (h : a'.toNat = a.toNat + 1) : y ≠ x := by
  rintro rfl
  have hxkey := key_mod_two_of_storeCell hx
  have hykey := key_mod_two_of_storeCell hy
  omega

theorem storeCell_poke (s : State) (x : Loc) (b : Byte) (a : Word) : storeCell (s.poke x b) a = storeCell s a := by
  unfold storeCell
  rw [busTarget_poke]
  rfl

/-! ### A push and what it leaves -/

theorem sameBus_setSp (s : State) (sp : Word) : SameBus s { s with sp := sp } :=
  ⟨rfl, rfl, rfl, rfl, rfl, rfl, rfl, rfl⟩

@[simp] theorem State.pushed_sp (s : State) (v : Word) : (s.pushed v).sp = s.sp - 2#16 := by simp [State.pushed]

section
variable {s : State} (v : Word) {x y : Loc} (hx : storeCell s (s.sp - 1#16) = some x)
  (hy : storeCell s (s.sp - 2#16) = some y)
include hx hy

/-- A push whose two addresses reach cells: the high byte in the upper one, the low byte in the lower one. -/
theorem pushed_eq_poke : s.pushed v = { (s.poke x (hi8 v)).poke y (lo8 v) with sp := s.sp - 2#16 } := by
  have hx' : storeCell { s with sp := s.sp - 1#16 } (s.sp - 1#16) = some x :=
    ((sameBus_setSp s _).storeCell _).trans hx
  have hy' : storeCell { s.poke x (hi8 v) with sp := s.sp - 2#16 } (s.sp - 2#16) = some y :=
    ((sameBus_setSp _ _).storeCell _).trans ((storeCell_poke _ _ _ _).trans hy)
  rw [State.pushed, memWrite_of_storeCell _ hx']
  exact memWrite_of_storeCell _ hy'

/-- After the push an address that reached a cell reads that cell. -/
theorem memRead_pushed {a : Word} {z : Loc} (hz : storeCell s a = some z) :
    memRead (s.pushed v) a = cellByte ((s.poke x (hi8 v)).poke y (lo8 v)) z := by
  rw [pushed_eq_poke v hx hy, (sameBus_setSp _ _).memRead]
  apply memRead_of_readCell
  rw [readCell_poke, readCell_poke]
  exact readCell_of_storeCell hz

theorem memRead_pushed_low (hw : s.mem.wf = true) : memRead (s.pushed v) (s.sp - 2#16) = lo8 v := by
  rw [memRead_pushed v hx hy hy, cellByte_poke (Memory.wf_write hw _ _), if_pos rfl]

/-- The low byte, stored last, does not lie on the high byte. -/
theorem memRead_pushed_high (hw : s.mem.wf = true) (h : 2 ≤ s.sp.toNat) :
    memRead (s.pushed v) (s.sp - 1#16) = hi8 v := by
  have hne : x ≠ y := storeCell_ne_of_succ hy hx (by bv_omega)
  rw [memRead_pushed v hx hy hx, cellByte_poke (Memory.wf_write hw _ _), if_neg hne, cellByte_poke hw, if_pos rfl]

end

/-- Settles O54: both bytes of the push are still there when they are popped. -/
theorem pushPopRoundTrip : Obligations.PushPopRoundTrip := by
  refine ⟨fun s v hw h hsome hsome' => ?_, fun s v h => push16_fault h v, fun s h => pop16_fault h⟩
  obtain ⟨x, hx⟩ := Option.ne_none_iff_exists'.mp hsome
  obtain ⟨y, hy⟩ := Option.ne_none_iff_exists'.mp hsome'
  have hsp := s.pushed_sp v
  have hlow : memRead (s.pushed v) (s.pushed v).sp = lo8 v := by rw [hsp, memRead_pushed_low v hx hy hw]
  have hhigh : memRead (s.pushed v) ((s.pushed v).sp + 1#16) = hi8 v := by
    have hnext : s.sp - 2#16 + 1#16 = s.sp - 1#16 := by bv_omega
    rw [hsp, hnext, memRead_pushed_high v hx hy hw h]
  have hback : (s.pushed v).sp + 2#16 = s.sp := by rw [hsp, BitVec.sub_add_cancel]
  have hbound : (s.pushed v).sp.toNat ≤ 0xFFFD := by
    rw [hsp]
    bv_omega
  refine ⟨s.pushed v, _, push16_eq_pushed h v, hsp, hlow, hhigh, ?_, rfl⟩
  rw [pop16_ok hbound, memRead16, hlow, hhigh, word16_hi8_lo8, hback]

end Sys2Proof.Machine
end

section
/-!
PROOF. O56: the bus after an instruction is the bus its writes leave. Each form of the meanings is followed write by
write; the table of writes is read family by family.
-/
namespace Sys2Proof.Machine

/-! ### The writes of the families -/

/-- The write of a result to an operand: one through HL, none to a register. -/
def operandWrites (s : State) (o : Operand) (v : Byte) : List (Word × Byte) :=
  match o with
  | .reg _ => []
  | .mHL => [(s.hl, v)]

section
variable (s : State)

theorem instrWrites_ofLd (dst src : Operand) : instrWrites (ofLd dst src) s =
    match dst, src with
    | .mHL, .reg r => [(s.hl, s.getReg r)]
    | .reg _, _ | .mHL, .mHL => [] := by
  rcases dst with dst | _ <;> rcases src with src | _
  · cases dst <;> cases src <;> rfl
  · cases dst <;> rfl
  · cases src <;> rfl
  · rfl

theorem instrWrites_ofLdImm (dst : Operand) (n : Byte) : instrWrites (ofLdImm dst n) s = operandWrites s dst n := by
  rcases dst with dst | _
  · cases dst <;> rfl
  · rfl

theorem instrWrites_ofInc (o : Operand) :
    instrWrites (ofInc o) s = operandWrites s o (incResult (s.getOperand o) s.flags).1 := by
  rcases o with r | _
  · cases r <;> rfl
  · rfl

theorem instrWrites_ofDec (o : Operand) :
    instrWrites (ofDec o) s = operandWrites s o (decResult (s.getOperand o) s.flags).1 := by
  rcases o with r | _
  · cases r <;> rfl
  · rfl

theorem instrWrites_ofAlu (op : AluOp) (o : Operand) : instrWrites (ofAlu op o) s = [] := by
  rcases o with r | _
  · cases op <;> cases r <;> rfl
  · cases op <;> rfl

theorem instrWrites_ofAluImm (op : AluOp) (n : Byte) : instrWrites (ofAluImm op n) s = [] := by cases op <;> rfl

theorem instrWrites_ofLdPair (p : Pair) (nn : Word) : instrWrites (ofLdPair p nn) s = [] := by cases p <;> rfl

theorem instrWrites_ofAddHl (p : Pair) : instrWrites (ofAddHl p) s = [] := by cases p <;> rfl

theorem instrWrites_ofIncPair (p : Pair) : instrWrites (ofIncPair p) s = [] := by cases p <;> rfl

theorem instrWrites_ofDecPair (p : Pair) : instrWrites (ofDecPair p) s = [] := by cases p <;> rfl

theorem instrWrites_ofPush (q : StackPair) : instrWrites (ofPush q) s = pushWrites s (s.getStackPair q) := by
  cases q <;> rfl

theorem instrWrites_ofPop (q : StackPair) : instrWrites (ofPop q) s = [] := by cases q <;> rfl

theorem instrWrites_ofJr (cc : Cond) (e : Byte) : instrWrites (ofJr cc e) s = [] := by cases cc <;> rfl

theorem instrWrites_ofJp (cc : Cond) (nn : Word) : instrWrites (ofJp cc nn) s = [] := by cases cc <;> rfl

theorem instrWrites_ofCall (cc : Cond) (nn : Word) :
    instrWrites (ofCall cc nn) s = if s.cond cc then pushWrites s (s.pc + 3#16) else [] := by cases cc <;> rfl

theorem instrWrites_ofRet (cc : Cond) : instrWrites (ofRet cc) s = [] := by cases cc <;> rfl

theorem instrWrites_ofRst (t : Fin 8) : instrWrites (ofRst t) s = pushWrites s (s.pc + 1#16) := by
  match t with
  | 0 | 1 | 2 | 3 | 4 | 5 | 6 | 7 => rfl

theorem instrWrites_ofRot (op : RotOp) (o : Operand) :
    instrWrites (ofRot op o) s = operandWrites s o (rotResult op (s.getOperand o) s.flags.c).1 := by
  rcases o with r | _
  · cases op <;> cases r <;> rfl
  · cases op <;> rfl

theorem instrWrites_ofBit (b : Fin 8) (o : Operand) : instrWrites (ofBit b o) s = [] := by
  match b with
  | 0 | 1 | 2 | 3 | 4 | 5 | 6 | 7 =>
    rcases o with r | _
    · cases r <;> rfl
    · rfl

theorem instrWrites_ofRes (b : Fin 8) (o : Operand) :
    instrWrites (ofRes b o) s = operandWrites s o (resResult b (s.getOperand o)) := by
  match b with
  | 0 | 1 | 2 | 3 | 4 | 5 | 6 | 7 =>
    rcases o with r | _
    · cases r <;> rfl
    · rfl

theorem instrWrites_ofSet (b : Fin 8) (o : Operand) :
    instrWrites (ofSet b o) s = operandWrites s o (setResult b (s.getOperand o)) := by
  match b with
  | 0 | 1 | 2 | 3 | 4 | 5 | 6 | 7 =>
    rcases o with r | _
    · cases r <;> rfl
    · rfl

end

/-! ### Following the writes -/

/-- The bus of `t` is the one the writes `ws` leave in `s`. -/
def Stored (s : State) (ws : List (Word × Byte)) (t : State) : Prop := SameBus (applyWrites s ws) t

theorem applyWrites_append (s : State) (ws ws' : List (Word × Byte)) :
    applyWrites s (ws ++ ws') = applyWrites (applyWrites s ws) ws' := by
  induction ws generalizing s with
  | nil => rfl
  | cons w rest ih => exact ih _

theorem Stored.refl (s : State) : Stored s [] s := SameBus.refl s

section
variable {s t : State} {ws : List (Word × Byte)} (m : Stored s ws t)
include m

theorem Stored.cpu {u : State} (c : CpuMove t u) : Stored s ws u := SameBus.trans m c.sameBus

theorem Stored.write (a : Word) (b : Byte) : Stored s (ws ++ [(a, b)]) (memWrite t a b) := by
  rw [Stored, applyWrites_append]
  exact SameBus.memWrite m a b

theorem Stored.retire (len : Word) (cost : Nat) : Stored s ws (t.retire len cost) := m.cpu ⟨rfl, .inl⟩

theorem Stored.jump (target : Word) : Stored s ws (t.jump target) := m.cpu ⟨rfl, .inl⟩

theorem Stored.setFlags (f : Flags) : Stored s ws (t.setFlags f) := m.cpu ⟨rfl, .inl⟩

theorem Stored.setHl (v : Word) : Stored s ws (t.setHl v) := m.cpu ⟨rfl, .inl⟩

theorem Stored.setSp (v : Word) : Stored s ws { t with sp := v } := m.cpu ⟨rfl, .inl⟩

theorem Stored.setReg (r : Reg8) (v : Byte) : Stored s ws (t.setReg r v) := by
  cases r <;> exact m.cpu ⟨rfl, .inl⟩

theorem Stored.setPair (p : Pair) (v : Word) : Stored s ws (t.setPair p v) := by
  cases p <;> exact m.cpu ⟨rfl, .inl⟩

theorem Stored.setStackPair (q : StackPair) (v : Word) : Stored s ws (t.setStackPair q v) := by
  cases q <;> exact m.cpu ⟨rfl, .inl⟩

theorem Stored.setOperand (hhl : t.hl = s.hl) (o : Operand) (v : Byte) :
    Stored s (ws ++ operandWrites s o v) (t.setOperand o v) := by
  cases o with
  | reg r =>
    rw [operandWrites, List.append_nil]
    exact m.setReg r v
  | mHL =>
    rw [operandWrites, ← hhl]
    exact m.write t.hl v

theorem Stored.pushed (hsp : t.sp = s.sp) (v : Word) : Stored s (ws ++ pushWrites s v) (t.pushed v) := by
  have h := (((m.setSp (t.sp - 1#16)).write (t.sp - 1#16) (hi8 v)).setSp (t.sp - 2#16)).write (t.sp - 2#16) (lo8 v)
  rw [List.append_assoc] at h
  rw [pushWrites, ← hsp]
  exact h

end

/-! ### The outcomes of the shared forms -/

/-- The bus of the next state an outcome answers, where it answers one, is the one the writes `ws` leave. -/
def StoresTo (s : State) (ws : List (Word × Byte)) (r : Result) : Prop := ∀ t, r = .next t → Stored s ws t

theorem Stored.next {s t : State} {ws : List (Word × Byte)} (m : Stored s ws t) : StoresTo s ws (.next t) := by
  rintro _ ⟨⟩
  exact m

theorem storesTo_fault (s : State) (ws : List (Word × Byte)) (f : Fault) : StoresTo s ws (.fault f) := fun _ => nofun

theorem storesTo_ite {s : State} {c : Bool} {ws : List (Word × Byte)} {x y : Result} (hx : StoresTo s ws x)
    (hy : StoresTo s ws y) : StoresTo s ws (if c then x else y) := by
  split
  · exact hx
  · exact hy

section
variable (s : State)

theorem stored_retire (len : Word) (cost : Nat) : Stored s [] (s.retire len cost) := (Stored.refl s).retire len cost

theorem incOperand_stores (o : Operand) :
    StoresTo s (operandWrites s o (incResult (s.getOperand o) s.flags).1) (incOperand o s) :=
  (((stored_retire s _ _).setOperand rfl o _).setFlags _).next

theorem decOperand_stores (o : Operand) :
    StoresTo s (operandWrites s o (decResult (s.getOperand o) s.flags).1) (decOperand o s) :=
  (((stored_retire s _ _).setOperand rfl o _).setFlags _).next

theorem rotOperand_stores (op : RotOp) (o : Operand) :
    StoresTo s (operandWrites s o (rotResult op (s.getOperand o) s.flags.c).1) (rotOperand op o s) :=
  (((stored_retire s _ _).setOperand rfl o _).setFlags _).next

theorem resOperand_stores (b : Fin 8) (o : Operand) :
    StoresTo s (operandWrites s o (resResult b (s.getOperand o))) (resOperand b o s) :=
  ((stored_retire s _ _).setOperand rfl o _).next

theorem setBitOperand_stores (b : Fin 8) (o : Operand) :
    StoresTo s (operandWrites s o (setResult b (s.getOperand o))) (setBitOperand b o s) :=
  ((stored_retire s _ _).setOperand rfl o _).next

theorem ldATo_stores (addr len : Word) (cost : Nat) : StoresTo s [(addr, s.a)] (ldATo addr len cost s) :=
  ((stored_retire s _ _).write _ _).next

theorem ldAToStep_stores (k : Word) : StoresTo s [(s.hl, s.a)] (ldAToStep k s) :=
  (((stored_retire s _ _).write _ _).setHl _).next

theorem ldAFrom_stores (addr len : Word) (cost : Nat) : StoresTo s [] (ldAFrom addr len cost s) :=
  ((stored_retire s _ _).setReg _ _).next

theorem ldAFromStep_stores (k : Word) : StoresTo s [] (ldAFromStep k s) :=
  (((stored_retire s _ _).setReg _ _).setHl _).next

/-- A call stores the address of the next instruction, or faults (spec 46 R316). -/
theorem callTo_stores (len : Word) (cost : Nat) (target : Word) :
    StoresTo s (pushWrites s (s.pc + len)) (callTo target (s.retire len cost)) := by
  by_cases h : s.sp.toNat < 2
  · rw [callTo_retire_fault h]
    exact storesTo_fault _ _ _
  · rw [callTo_retire_ok (Nat.le_of_not_lt h)]
    exact (((stored_retire s len cost).pushed rfl _).jump target).next

theorem callIf_stores (cc : Cond) (nn : Word) :
    StoresTo s (if s.cond cc then pushWrites s (s.pc + 3#16) else []) (callIf cc nn s) := by
  cases h : s.cond cc with
  | false => rw [callIf_not_taken h]; exact (stored_retire s 3 12).next
  | true => rw [callIf_taken h]; exact callTo_stores s 3 24 nn

theorem pushPair_stores (q : StackPair) : StoresTo s (pushWrites s (s.getStackPair q)) (pushPair q s) := by
  by_cases h : s.sp.toNat < 2
  · rw [pushPair_fault h]
    exact storesTo_fault _ _ _
  · rw [pushPair_ok (Nat.le_of_not_lt h)]
    exact ((stored_retire s 1 16).pushed rfl _).next

theorem popPair_stores (q : StackPair) : StoresTo s [] (popPair q s) := by
  by_cases h : s.sp.toNat ≤ 0xFFFD
  · rw [popPair_ok h]
    exact (((stored_retire s 1 12).setSp _).setStackPair q _).next
  · rw [popPair_fault (Nat.lt_of_not_le h)]
    exact storesTo_fault _ _ _

theorem retFrom_stores (len : Word) (cost : Nat) : StoresTo s [] (retFrom (s.retire len cost)) := by
  by_cases h : s.sp.toNat ≤ 0xFFFD
  · rw [retFrom_retire_ok h]
    exact Stored.next ((Stored.refl s).cpu ⟨rfl, .inl⟩)
  · rw [retFrom_retire_fault (Nat.lt_of_not_le h)]
    exact storesTo_fault _ _ _

theorem retIf_stores (cc : Cond) : StoresTo s [] (retIf cc s) :=
  storesTo_ite (retFrom_stores s 1 20) (stored_retire s 1 8).next

theorem exec_reti_stores : StoresTo s [] (exec .reti s) := by
  by_cases h : s.sp.toNat ≤ 0xFFFD
  · rw [exec_reti_ok h]
    exact Stored.next ((Stored.refl s).cpu ⟨rfl, fun h => nomatch h⟩)
  · rw [exec_reti_fault (Nat.lt_of_not_le h)]
    exact storesTo_fault _ _ _

theorem jrIf_stores (cc : Cond) (e : Byte) : StoresTo s [] (jrIf cc e s) :=
  storesTo_ite ((stored_retire s 2 12).jump _).next (stored_retire s 2 8).next

theorem jpIf_stores (cc : Cond) (nn : Word) : StoresTo s [] (jpIf cc nn s) :=
  storesTo_ite ((stored_retire s 3 16).jump _).next (stored_retire s 3 12).next

theorem execEi_stores : StoresTo s [] (execEi s) := by
  unfold execEi
  split
  case isTrue h => exact Stored.next ((Stored.refl s).cpu ⟨rfl, fun _ => .inr h⟩)
  case isFalse => exact Stored.next ((Stored.refl s).cpu ⟨rfl, .inl⟩)

end

/-! ### Instructions -/

theorem exec_ofLd_stores (dst src : Operand) (s : State) :
    StoresTo s (instrWrites (ofLd dst src) s) (exec (ofLd dst src) s) := by
  rw [instrWrites_ofLd]
  cases dst with
  | reg dst =>
    cases src with
    | reg src => rw [exec_ofLd_reg_reg]; exact ((stored_retire s _ _).setReg _ _).next
    | mHL => rw [exec_ofLd_reg_mHL]; exact ((stored_retire s _ _).setReg _ _).next
  | mHL =>
    cases src with
    | reg src => rw [exec_ofLd_mHL_reg]; exact ((stored_retire s _ _).write _ _).next
    | mHL => exact Stored.next ((Stored.refl s).cpu ⟨rfl, .inl⟩)

theorem exec_ofLdImm_stores (dst : Operand) (n : Byte) (s : State) :
    StoresTo s (operandWrites s dst n) (exec (ofLdImm dst n) s) := by
  cases dst with
  | reg dst => rw [exec_ofLdImm_reg]; exact ((stored_retire s _ _).setReg _ _).next
  | mHL => exact ((stored_retire s _ _).write _ _).next

/-- Every instruction leaves the bus that its writes leave (spec 20 R89, R95). -/
theorem exec_stores (i : Instr) (s : State) : StoresTo s (instrWrites i s) (exec i s) := by
  cases row_of i with
  | ld dst src => exact exec_ofLd_stores dst src s
  | ldImm dst n => rw [instrWrites_ofLdImm]; exact exec_ofLdImm_stores dst n s
  | inc o => rw [exec_ofInc, instrWrites_ofInc]; exact incOperand_stores s o
  | dec o => rw [exec_ofDec, instrWrites_ofDec]; exact decOperand_stores s o
  | alu op o => rw [exec_ofAlu, instrWrites_ofAlu]; exact (((stored_retire s _ _).setReg _ _).setFlags _).next
  | aluImm op n => rw [exec_ofAluImm, instrWrites_ofAluImm]; exact (((stored_retire s _ _).setReg _ _).setFlags _).next
  | ldPair p nn => rw [exec_ofLdPair, instrWrites_ofLdPair]; exact ((stored_retire s _ _).setPair p _).next
  | addHl p => rw [exec_ofAddHl, instrWrites_ofAddHl]; exact (((stored_retire s _ _).setHl _).setFlags _).next
  | incPair p => rw [exec_ofIncPair, instrWrites_ofIncPair]; exact ((stored_retire s _ _).setPair p _).next
  | decPair p => rw [exec_ofDecPair, instrWrites_ofDecPair]; exact ((stored_retire s _ _).setPair p _).next
  | push q => rw [exec_ofPush, instrWrites_ofPush]; exact pushPair_stores s q
  | pop q => rw [exec_ofPop, instrWrites_ofPop]; exact popPair_stores s q
  | jrIf cc e => rw [exec_ofJr, instrWrites_ofJr]; exact jrIf_stores s cc e
  | jpIf cc nn => rw [exec_ofJp, instrWrites_ofJp]; exact jpIf_stores s cc nn
  | callIf cc nn => rw [exec_ofCall, instrWrites_ofCall]; exact callIf_stores s cc nn
  | retIf cc => rw [exec_ofRet, instrWrites_ofRet]; exact retIf_stores s cc
  | rst t => rw [exec_ofRst, instrWrites_ofRst]; exact callTo_stores s 1 16 _
  | rot op o => rw [exec_ofRot, instrWrites_ofRot]; exact rotOperand_stores s op o
  | bit b o => rw [exec_ofBit, instrWrites_ofBit]; exact ((stored_retire s _ _).setFlags _).next
  | res b o => rw [exec_ofRes, instrWrites_ofRes]; exact resOperand_stores s b o
  | set b o => rw [exec_ofSet, instrWrites_ofSet]; exact setBitOperand_stores s b o
  | ld_mBC_A | ld_mDE_A | ldh_mn_A | ldh_mC_A | ld_mnn_A => exact ldATo_stores s _ _ _
  | ld_A_mBC | ld_A_mDE | ldh_A_mn | ldh_A_mC | ld_A_mnn => exact ldAFrom_stores s _ _ _
  | ld_mHLinc_A | ld_mHLdec_A => exact ldAToStep_stores s _
  | ld_A_mHLinc | ld_A_mHLdec => exact ldAFromStep_stores s _
  | ld_mnn_SP nn => exact (((stored_retire s _ _).write _ _).write _ _).next
  | ld_SP_HL => exact ((stored_retire s _ _).setPair .sp _).next
  | ld_HL_SPe e => exact (((stored_retire s _ _).setHl _).setFlags _).next
  | add_SP_e e => exact (((stored_retire s _ _).setPair .sp _).setFlags _).next
  | rlca | rrca | rla | rra | daa | cpl => exact (((stored_retire s _ _).setReg .a _).setFlags _).next
  | scf | ccf => exact ((stored_retire s _ _).setFlags _).next
  | jr_e | jp_nn | jp_HL => exact ((stored_retire s _ _).jump _).next
  | call_nn nn => exact callTo_stores s 3 24 nn
  | ret => exact retFrom_stores s 1 16
  | reti => exact exec_reti_stores s
  | nop => exact (stored_retire s _ _).next
  | stop n => exact Stored.next ((Stored.refl s).cpu ⟨rfl, .inl⟩)
  | di => exact Stored.next ((Stored.refl s).cpu ⟨rfl, fun h => nomatch h⟩)
  | ei => exact execEi_stores s
  | unassigned i h =>
    obtain ⟨op, -, -, hx⟩ := exec_unassigned h s
    rw [hx]
    exact storesTo_fault _ _ _

/-- A cell that none of the writes stores to is unchanged by them. -/
theorem cellByte_applyWrites_other {s : State} (hw : s.mem.wf = true) (ws : List (Word × Byte)) {x : Loc}
    (hx : x ∉ writtenCells s ws) : cellByte (applyWrites s ws) x = cellByte s x := by
  induction ws generalizing s with
  | nil => rfl
  | cons w rest ih =>
    obtain ⟨a, b⟩ := w
    rw [writtenCells, List.mem_append, not_or] at hx
    obtain ⟨hfirst, hrest⟩ := hx
    have hne : storeCell s a ≠ some x := fun h => hfirst (by simp [h])
    exact (ih (memWrite_mem_wf hw a b) hrest).trans (cellByte_memWrite_other hw a b hne)

/-- Settles O56: the bus is the one the writes leave, and each write leaves the cells it does not store to. -/
theorem storesExactly : Obligations.StoresExactly := by
  intro i s t hw h
  have hbus : SameBus (applyWrites s (instrWrites i s)) t := exec_stores i s t h
  refine ⟨hbus.mem, hbus.mbc, hbus.ifReg, hbus.ieReg, hbus.svbk, hbus.vbk, fun x hx => ?_, fun hnone a => ?_⟩
  · rw [cellByte, hbus.mem]
    exact cellByte_applyWrites_other hw _ hx
  · rw [hnone] at hbus
    exact hbus.memRead a

end Sys2Proof.Machine
end
